-- ==== Sys2Proof/Word.lean ====
section
/-! DEFINITION. The word types of the IW8: what the manual treats as bits or as small index sets. -/

namespace Sys2Proof

/-- A 32-bit memory or setup word (00_scope.md, Conventions). -/
abbrev Word := BitVec 32

/-- A byte. -/
abbrev Byte := BitVec 8

/-- A 24-bit byte address, 000000h to FFFFFFh. -/
abbrev Addr := BitVec 24

/-- The four byte enables of one access; bit i goes with byte i of the word (R8). -/
abbrev Enables := BitVec 4

/-- One flag or level for each of a lane's eleven lines, in the line order of section 11.3:
D0 to D7 at 0 to 7, C0 at 8, C1 at 9, C2 at 10. -/
abbrev Lines := BitVec 11

/-- A channel number, 0 to 7. -/
abbrev ChanId := Fin 8

/-- A lane number, 0 to 3. -/
abbrev LaneId := Fin 4

end Sys2Proof
end

