-- ==== Sys2Proof/Syntax.lean ====
section
/-! DEFINITION. The commands of the IW8: one constructor for each row of spec/opcode_table.json, in the table's order.

The rows are the part's steps, each whole and indivisible (95_what_each_step_holds.md). The table gives them no operand
bits; an operand here is what the outside world brings to the step: the host's bus lines, the word and the MERR that the
memory returns, the byte an engine puts, the straps, the outside levels of the lane pins, the lane whose engine or timer
acts. What a step takes from the part itself (the recorded access, the presented requests) is read from the state. -/

namespace Sys2Proof

/-- The host port's input lines at an arrival (R1): the word address HA[23:2], the byte enables, the write data and the
two strobes (true: asserted). -/
structure HostBus where
  wordAddr : BitVec 22
  be : Enables
  data : Word
  rd : Bool
  wr : Bool
  deriving DecidableEq, Repr

/-- What the outside does to the eleven pins of one lane at a moment: the level it gives each line, and the set of lines
that it drives although the part drives them too. On a contended line the pin carries `level`: "reads whatever level
the lines settle to" (R156, log entry 8). -/
structure LaneLevels where
  level : Lines
  contended : Lines
  deriving DecidableEq, Repr

/-- The outside levels of all four lanes' pins at a moment. -/
structure Pins where
  lane0 : LaneLevels
  lane1 : LaneLevels
  lane2 : LaneLevels
  lane3 : LaneLevels
  deriving DecidableEq, Repr

/-- The outside levels of one lane's pins. -/
def Pins.lane (p : Pins) (n : LaneId) : LaneLevels :=
  match n with
  | 0 => p.lane0
  | 1 => p.lane1
  | 2 => p.lane2
  | 3 => p.lane3

/-- No line is driven high and none is contended. -/
def Pins.low : Pins := ⟨⟨0, 0⟩, ⟨0, 0⟩, ⟨0, 0⟩, ⟨0, 0⟩⟩

/-- What the outside brings at the end of a host's memory cycle: the word that the memory returns, and the levels of the pins.
These are read only where a strobe asserted again over an abandoned cycle arrives at the same moment, as a read of a mirror
word (R14, R159). -/
structure CycleEnd where
  word : Word
  pins : Pins
  deriving DecidableEq, Repr

/-- The start of a MARK pulse: the lane, and the level of PUT at that moment (R98). -/
structure MarkStart where
  lane : LaneId
  put : Bool
  deriving DecidableEq, Repr

/-- The commands. -/
inductive Instr where
  /-- HOST_ACCESS_ARRIVAL (R1): a host strobe is asserted. -/
  | hostAccessArrival (bus : HostBus) (pins : Pins)
  /-- MIRROR_WORD_READ (R159): the host reads lane n's mirror word. -/
  | mirrorWordRead (n : LaneId) (be : Enables) (pins : Pins)
  /-- HOST_GRANT (R6): the arbiter grants the waiting host access. -/
  | hostGrant (pins : Pins)
  /-- HOST_ACCESS_COMPLETION (R12): the memory ends the host's cycle. -/
  | hostAccessCompletion (data : CycleEnd) (merr : Bool)
  /-- EARLY_STROBE_RELEASE (R14). -/
  | earlyStrobeRelease
  /-- HARDWARE_RESET (R16): RESETn falls; the straps are sampled. -/
  | hardwareReset (sbase : BitVec 8) (bypass : Bool)
  /-- RESET_RELEASE (R16): RESETn rises with the last sampled straps and the host's lines at that moment. -/
  | resetRelease (sbase : BitVec 8) (bypass : Bool) (bus : HostBus) (pins : Pins)
  /-- RESTART (R32). -/
  | restart (pins : Pins)
  /-- ACTIVE_SET (R26). -/
  | activeSet
  /-- ACTIVE_CLEAR (R27). -/
  | activeClear
  /-- IRQ_EN_AND_PATIENCE_WRITE (R28). -/
  | irqEnAndPatienceWrite
  /-- RING_SIZE_CHANGE (R29). -/
  | ringSizeChange
  /-- RING_BASE_WRITE (R172). -/
  | ringBaseWrite
  /-- CONSUMER_INDEX_WRITE (R170). -/
  | consumerIndexWrite
  /-- LOST_CLEAR (R31). -/
  | lostClear
  /-- LANE_MODE_CHANGE (R88). -/
  | laneModeChange (pins : Pins)
  /-- LANE_MASKS_WRITE (R158). -/
  | laneMasksWrite
  /-- LANE_TIMER_WRITE (R90). -/
  | laneTimerWrite
  /-- MIRROR_WORD_WRITE (R157). -/
  | mirrorWordWrite
  /-- RUN_REQUEST (R44). -/
  | runRequest
  /-- CHANNEL_STOP (R48). -/
  | channelStop
  /-- CHANNEL_BINDING_WRITE (R39). -/
  | channelBindingWrite
  /-- GUARD_CHANGE (R41). -/
  | guardChange
  /-- ARRAY_GEOMETRY_WRITE (R42). -/
  | arrayGeometryWrite
  /-- STALL_LIMIT_WRITE (R43). -/
  | stallLimitWrite
  /-- ENABLE_SET (R52). -/
  | enableSet
  /-- ENABLE_CLEAR (R52). -/
  | enableClear
  /-- IGNORED_SETUP_WRITE (R21, R22). -/
  | ignoredSetupWrite
  /-- COMMIT (R66, with the refused and held commits of R67 and R77). -/
  | commit
  /-- WITHDRAW (R68). -/
  | withdraw
  /-- RECOMMIT (R69, with the refused and held recommits of R67 and R77). -/
  | recommit
  /-- FAILED_SLOT_FREE (R69). -/
  | failedSlotFree
  /-- RELEASE (R70). -/
  | release
  /-- STALL_TIMER_EXPIRY (R76). -/
  | stallTimerExpiry
  /-- MEMORY_PORT_GRANT (R147). -/
  | memoryPortGrant
  /-- SEND_MOVER_READ_COMPLETION (R115): the memory ends a send mover's read. -/
  | sendMoverReadCompletion (data : Word) (merr : Bool)
  /-- RECEIVE_MOVER_WRITE_COMPLETION (R133): the memory ends a receive mover's write. -/
  | receiveMoverWriteCompletion (merr : Bool)
  /-- NOTICE_WORD_COMPLETION (R168): the memory ends a notice writer's write. -/
  | noticeWordCompletion (merr : Bool)
  /-- TAKE (R92): lane n's engine releases TAKE. -/
  | take (n : LaneId)
  /-- TAKE_TIMER_EXPIRY (R93). -/
  | takeTimerExpiry (n : LaneId)
  /-- ABORT_STROBE_END (R94). -/
  | abortStrobeEnd (n : LaneId)
  /-- PUT (R96): lane n's engine asserts PUT with a byte and with MARK at this level. -/
  | put (n : LaneId) (byte : Byte) (mark : Bool)
  /-- ENGINE_ABORT (R98): lane n's engine releases MARK. -/
  | engineAbort (n : LaneId)
  /-- BYTE_TIMER_EXPIRY (R99). -/
  | byteTimerExpiry (n : LaneId)
  /-- SLOT_WAIT_EXPIRY (R131). -/
  | slotWaitExpiry (n : LaneId)
  /-- WANT_RISE (R100): the engine of even lane n raises WANT. -/
  | wantRise (n : LaneId)
  /-- WANT_FALL (R102): the engine of even lane n lowers WANT. -/
  | wantFall (n : LaneId)
  /-- WATCH_SAMPLE (R160): one 1 µs tick of the timer base, with the outside levels of the pins. -/
  | watchSample (pins : Pins)
  /-- HOST_STROBE_RELEASE (R1): the host releases the named strobes. -/
  | hostStrobeRelease (rd wr : Bool)
  /-- TAKE_ASSERTION (R92): lane n's engine asserts TAKE. -/
  | takeAssertion (n : LaneId)
  /-- MARK_ASSERTION (R98): lane n's engine asserts MARK, with PUT at this level. -/
  | markAssertion (n : MarkStart)
  deriving DecidableEq, Repr

end Sys2Proof
end

