-- ==== Sys2Proof/Decode.lean ====
section
/-! DEFINITION. The decoder. The IW8 is a block: it decodes no instruction words, and no row of spec/opcode_table.json
gives bits, so no word spells a command. -/

namespace Sys2Proof

/-- The command that a word of `nbits` bits spells by the table's bits: the table gives no row bits, so none. -/
def decodeTableWord (_nbits _w : Nat) : Option Instr := none

end Sys2Proof
end

