-- ==== Sys2Proof/Config.lean ====
section
/-! DEFINITION. What stays open for the whole machine: the values the manual leaves free. The fixed sizes of
00_scope.md are written as numbers where their rules use them. -/

namespace Sys2Proof.Config

/-- The byte that MD carries in a byte place whose enable is inactive, in a partial payload word that a receive mover
writes (R135). The manual gives the write's enables and the gathered bytes and says nothing of the other places, so the
value is FREE: it has no body, nothing can be proved of it, and every such byte is the next value of the sequence
(`State.freeCount` counts them). Log entry 7. -/
opaque unselectedByte : Nat → Byte

/-- Which of several internal requests that came at the moment the port became FREE, or together at a FREE port, is taken first
(R147: "Either may be taken first"), as an index into those that may be: FREE, applied to `State.freeCount`. Log entry 25. -/
opaque takenFirst : Nat → Nat

/-- Whether an internal request that came at the moment the port became FREE was taken before the decision, and so counts
among its requests (R147, R148, R153): FREE, applied to `State.freeCount`. Log entry 25. -/
opaque takenInTime : Nat → Bool

end Sys2Proof.Config
end

