-- ==== Sys2Proof/Machine/State.lean ====
section
/-! DEFINITION. The state of the IW8, as plain data: every register, buffer, counter, timer, flag and port record that
the manual gives the part, and the queue of the commands that wait. INVENTORY.md lists each piece with its rule and its
reset value. The memory below the part is not the part's state: what it returns is brought by the completions.

Output pins (HWAIT, HERR, HD, IRQ, the driven lane lines) and the live fields of the setup words are functions of this
state (Machine/Flags.lean); they are not stored twice. -/

namespace Sys2Proof.Machine

/-! ### Channels and slots -/

/-- A slot's state, with the codes of the header's STATE field (R61, section 11.5). -/
inductive SlotState where
  | free | committed | sending | failed | filling | ready
  deriving DecidableEq, Repr

/-- One slot record of the slot tracker (R61). -/
structure SlotRec where
  state : SlotState
  len : Nat
  seq : Byte
  deriving DecidableEq, Repr

/-- A FREE slot: length and sequence number 0 (R61). -/
def SlotRec.free : SlotRec := ⟨.free, 0, 0⟩

/-- A channel's DIRECTION (R37). -/
inductive Direction where
  | outbound | inbound
  deriving DecidableEq, Repr

/-- The reasons of run validation, in the order of its checks (R44). -/
inductive RunReason where
  | inactive | guardCode | geometry | align | range | overlapSetup | overlapRing | overlapChannel
  | laneMode | routeTaken | stallLimit
  deriving DecidableEq, Repr

/-- A channel's STATE, with its REASON where it has one: RUN and REASON agree with STATE at every moment (R38), so they
are read from it. -/
inductive ChanState where
  | off | running | rejected (why : RunReason)
  deriving DecidableEq, Repr

/-- The six notify enables of a channel as one field: bit 0 TX_DONE, 1 TX_FAILED, 2 RX_READY, 3 RX_DROPPED,
4 GUARD_DISCARD, 5 COMMIT_REFUSED (R52, section 11.4). -/
abbrev NotifyEnables := BitVec 6

/-- A channel record (R37) with the slot tracker's records of the channel (R61). -/
structure Channel where
  dir : Direction
  lane : LaneId
  route : BitVec 4
  guard : BitVec 2
  base : Addr
  sizeCode : BitVec 4
  count : BitVec 7
  stallLimit : BitVec 8
  enables : NotifyEnables
  state : ChanState
  seqCtr : Byte
  fillPtr : Nat
  done : BitVec 16
  faults : BitVec 16
  /-- One record for each slot while RUNNING; none otherwise. A slot with no record is FREE. -/
  slots : List SlotRec
  deriving DecidableEq, Repr

/-- A channel after either reset (R32, R35, R37). -/
def Channel.reset : Channel where
  dir := .outbound
  lane := 0
  route := 0
  guard := 0
  base := 0
  sizeCode := 0
  count := 0
  stallLimit := 0
  enables := 0
  state := .off
  seqCtr := 0
  fillPtr := 0
  done := 0
  faults := 0
  slots := []

/-! ### Lanes -/

/-- A lane's MODE (R85). -/
inductive LaneMode where
  | mirror | send | receive | duplex
  deriving DecidableEq, Repr

/-- One entry of a send queue: a channel and one of its slots (R106). -/
structure QueueEntry where
  chan : ChanId
  slot : Nat
  deriving DecidableEq, Repr

/-- The current record of a send side (R105). `offering` tells S_OFFERING from S_STARVED; with no current record the
side is S_IDLE. -/
structure SendRecord where
  chan : ChanId
  slot : Nat
  len : Nat
  read : Nat
  offered : Nat
  offering : Bool
  deriving DecidableEq, Repr

/-- A mover: no access, a request presented, a granted memory cycle in progress (READING or WRITING), or a cycle in
progress whose record has ended (R105, R124). -/
inductive Mover where
  | none | waiting | busy | orphaned
  deriving DecidableEq, Repr

/-- A lane's send side (R105). -/
structure SendSide where
  queue : List QueueEntry
  cur : Option SendRecord
  tx : List Byte
  mover : Mover
  /-- The abort strobe in progress, with the moment it is 1 µs old (R94). -/
  strobe : Option Nat
  takeTimer : Option Nat
  /-- The byte last offered, which D0 to D7 keep (R86). -/
  data : Byte
  /-- A TAKE pulse in progress, and whether the offer it met still stands (R92). -/
  takePulse : Option Bool
  deriving DecidableEq, Repr

/-- A send side after either reset or a mode change (R105). -/
def SendSide.reset : SendSide where
  queue := []
  cur := none
  tx := []
  mover := .none
  strobe := none
  takeTimer := none
  data := 0
  takePulse := none

/-- An end mark on a receive buffer entry (R95). -/
inductive EndMark where
  | abort | timeout | overrun
  deriving DecidableEq, Repr

/-- A receive buffer entry (R95). -/
structure RxEntry where
  byte : Byte
  last : Bool
  mark : Option EndMark
  deriving DecidableEq, Repr

/-- Where the engine stands in the record it is putting (R85). -/
inductive PutState where
  | gap | record | skip
  deriving DecidableEq, Repr

/-- The current record of a receive side that has a slot (R124). Bytes stored is the slot record's length (R61). -/
structure FillRecord where
  chan : ChanId
  slot : Nat
  truncated : Bool
  deriving DecidableEq, Repr

/-- A receive side's state with its current record (R124): a waiting record has no slot and may have ended; `ended` is 0
in R_FILLING and 1 in R_CLOSING. -/
inductive RecvState where
  | idle
  | slotWait (chan : ChanId) (ended : Bool)
  | filling (r : FillRecord)
  | closing (r : FillRecord)
  | discarding
  deriving DecidableEq, Repr

/-- A lane's receive side and its receive buffer (R85, R95, R124). -/
structure RecvSide where
  putState : PutState
  rx : List RxEntry
  byteTimer : Option Nat
  state : RecvState
  gather : List Byte
  mover : Mover
  slotWaitTimer : Option Nat
  /-- A MARK pulse in progress, and whether PUT has been asserted during it (R98). -/
  markPulse : Option Bool
  deriving DecidableEq, Repr

/-- A receive side after either reset or a mode change (R85, R124). -/
def RecvSide.reset : RecvSide where
  putState := .gap
  rx := []
  byteTimer := none
  state := .idle
  gather := []
  mover := .none
  slotWaitTimer := none
  markPulse := none

/-- The turn of a DUPLEX lane (R85). -/
inductive Turn where
  | idle | out | inn
  deriving DecidableEq, Repr

/-- The turn arbiter of a lane (R85, R100): the turn, the last direction, WANT as its engine holds it, and whether the
inbound turn has had a put (R102). -/
structure TurnState where
  turn : Turn
  last : Direction
  want : Bool
  putSeen : Bool
  deriving DecidableEq, Repr

/-- A turn arbiter after either reset or a mode change: T_IDLE, last direction IN (R85, R89). -/
def TurnState.reset : TurnState := ⟨.idle, .inbound, false, false⟩

/-- A lane's mirror state (R155), with what a watch sample compares (R160): the sampled levels, the lines that were
inputs at the last sample, and the lines that became watched or became inputs at a grant since it. -/
structure MirrorState where
  latch : Lines
  changeHeld : Bool
  sampled : Lines
  prevInput : Lines
  fresh : Lines
  deriving DecidableEq, Repr

/-- The mirror state after a reset (R155); the sampled levels are taken from the pins when the reset ends. That no line counts
as an input of a previous sample before the first one is the model's choice (log entry 19). -/
def MirrorState.reset : MirrorState := ⟨0, false, 0, 0, 0⟩

/-- A lane record (R85): the shadow of its mode and timer words, its two sides, its turn and its mirror state. -/
structure Lane where
  mode : LaneMode
  missNote : Bool
  dir : Lines
  watch : Lines
  byteLimit : BitVec 8
  takeLimit : BitVec 8
  slotWait : BitVec 8
  snd : SendSide
  rcv : RecvSide
  turn : TurnState
  mir : MirrorState
  deriving DecidableEq, Repr

/-- A lane after either reset (R85). -/
def Lane.reset : Lane where
  mode := .mirror
  missNote := false
  dir := 0
  watch := 0
  byteLimit := 0
  takeLimit := 0
  slotWait := 0
  snd := .reset
  rcv := .reset
  turn := .reset
  mir := .reset

/-! ### The host port and the guard -/

/-- The class of an access, settled at its arrival (R2). -/
inductive AccessClass where
  | plain
  | setup (offset : Nat)
  | slotHeader (c : ChanId) (slot : Nat)
  | slotPayload (c : ChanId) (slot word : Nat)
  deriving DecidableEq, Repr

/-- The record of the host access in progress (R1). -/
structure HostRecord where
  addr : Addr
  write : Bool
  be : Enables
  data : Word
  cls : AccessClass
  deriving DecidableEq, Repr

/-- The overlay's snapshot: the slot's state and, where it is laid over, its sequence number (R11, R79). -/
structure Overlay where
  state : SlotState
  seq : Option Byte
  deriving DecidableEq, Repr

/-- What a host memory cycle carries to its completion: abandoned by an early release (R14), HERR due for a refused commit
under REJECT (R67, R77), the overlay snapshot (R11), and, over an abandoned cycle, the host's lines where it has asserted the
access's strobe again, which arrives once the port is in HP_IDLE (R14). -/
structure HostCycle where
  abandoned : Bool
  herr : Bool
  overlay : Option Overlay
  again : Option HostBus
  deriving DecidableEq, Repr

/-- The host port's state with its access record (R1): HP_IDLE, HP_WAITING, HP_HELD, HP_ACCESS. -/
inductive HostPort where
  | idle
  | waiting (r : HostRecord)
  | held (r : HostRecord)
  | access (r : HostRecord) (cyc : HostCycle)
  deriving DecidableEq, Repr

/-- The answer the port keeps toward the host until the strobes of the ended access are released (R1): which strobes it
had, HERR, and the read data on HD. -/
structure HostAnswer where
  rd : Bool
  wr : Bool
  herr : Bool
  data : Option Word
  deriving DecidableEq, Repr

/-- The host port: its state and record, the answer it keeps, and the strobes the host holds asserted. -/
structure HostSide where
  port : HostPort
  answer : Option HostAnswer
  rdStrobe : Bool
  wrStrobe : Bool
  deriving DecidableEq, Repr

/-- Why a held write waits (R74). -/
inductive HoldReason where
  | slot | queue
  deriving DecidableEq, Repr

/-- The guard's record of the held write (R74, R82). It stays while a woken write waits for its next grant. -/
structure HeldWrite where
  chan : ChanId
  slot : Nat
  word : Nat
  reason : HoldReason
  deriving DecidableEq, Repr

/-- The guard's own state (R82). -/
structure GuardState where
  held : Option HeldWrite
  stallTimer : Option Nat
  deriving DecidableEq, Repr

/-! ### The arbiter -/

/-- A requester of the memory port: the host or one of the nine internal requesters (R145). -/
inductive Requester where
  | host | notice | send (n : LaneId) | recv (n : LaneId)
  deriving DecidableEq, Repr

/-- One word access on the memory port: MA, MBE and, for a write, MD (R6, R150). `write` is none for a read. -/
structure MemAccess where
  addr : Addr
  be : Enables
  write : Option Word
  deriving DecidableEq, Repr

/-- The access in progress on the memory port (R146). -/
structure PortAccess where
  who : Requester
  acc : MemAccess
  deriving DecidableEq, Repr

/-- The requests that a decision at a FREE port is among (R147): `standing` those presented when the port became FREE, `joining`
those presented at that same moment, which may be taken before the decision or after it, and `alone` those presented together
at a port already FREE, of which the first taken is granted alone. -/
structure Contenders where
  standing : List Requester
  joining : List Requester
  alone : List Requester
  deriving DecidableEq, Repr

/-- No contender. -/
def Contenders.none : Contenders := ⟨[], [], []⟩

/-- What the arbiter's next decision at a FREE port is among (R147). `opened`: the port became FREE at the last change of the
requests, with `standing` presented before that moment, and any other request presented came at it. `recorded`: a later event
has changed the requests; the contenders are those found before it, as long as they stay presented. -/
inductive Contest where
  | opened (standing : List Requester)
  | recorded (found : Contenders)
  deriving DecidableEq, Repr

/-- The arbiter's state (R144): the port, the round-robin pointer by position, the patience counter. `contest` tells R147's
requests at a FREE port apart. -/
structure Arbiter where
  port : Option PortAccess
  rr : Fin 9
  patienceCtr : BitVec 4
  contest : Contest
  deriving DecidableEq, Repr

/-! ### The device block and the notice unit -/

/-- The device block of the setup shadow (R25, R35, R172). The consumer index is the notice unit's. -/
structure DeviceShadow where
  active : Bool
  irqEn : Bool
  ringSize : BitVec 3
  patience : BitVec 4
  ringBase : Addr
  deriving DecidableEq, Repr

/-- The kinds of notices (R165). -/
inductive NoticeKind where
  | txDone | txFailed | rxReady | rxDropped | routeMiss | guardDiscard | commitRefused | setupRejected
  | mirrorChange
  deriving DecidableEq, Repr

/-- A notice as generated (R165). -/
structure Notice where
  kind : NoticeKind
  source : Byte
  slot : Byte
  seq : Byte
  detail : BitVec 16
  number : BitVec 16
  deriving DecidableEq, Repr

/-- The notice writer (R163). -/
inductive WriterState where
  | idle | word0Waiting | word0Writing | word1Waiting | word1Writing
  deriving DecidableEq, Repr

/-- The notice unit (R163). -/
structure NoticeUnit where
  list : List Notice
  number : BitVec 16
  lost : Bool
  prod : BitVec 16
  cons : BitVec 16
  writer : WriterState
  deriving DecidableEq, Repr

/-! ### The whole part -/

/-- The state of the part and the queue of waiting commands. -/
structure State where
  /-- The commands that wait, first in, first out. -/
  pending : List Instr
  /-- RESETn is high. -/
  resetn : Bool
  /-- The straps as last sampled (R16, R19). -/
  sbase : BitVec 8
  bypass : Bool
  /-- The ticks of the 1 µs timer base so far; timer deadlines are counted in it (R34, R90). -/
  now : Nat
  /-- How many free values have been used (the model's own; `Config.unselectedByte`). -/
  freeCount : Nat
  host : HostSide
  guard : GuardState
  arb : Arbiter
  dev : DeviceShadow
  nu : NoticeUnit
  chans : Vector Channel 8
  lanes : Vector Lane 4
  deriving DecidableEq, Repr

/-- The part stops with no fault: every step the manual gives has an effect, and a step that cannot happen in a state is
no event there. The type has no constructor. -/
inductive Fault where
  deriving DecidableEq, Repr

/-- The refusals: none is ever answered. -/
inductive Refusal where
  /-- A command that the model gives no meaning; raised by `exec` alone, and every arm of it has a meaning. Safe: the
  run stops. -/
  | notModelled (mnemonic : String)
  deriving DecidableEq, Repr

/-- The machine right after a hardware reset, RESETn released with no strobe asserted (R16, R32, R35). The straps are pins,
whose levels the manual does not fix: SBASE 00h and BYPASS low, log entry 1. The sampled levels of the lanes are 0 there, log
entry 19. -/
def State.reset : State where
  pending := []
  resetn := true
  sbase := 0
  bypass := false
  now := 0
  freeCount := 0
  host := ⟨.idle, none, false, false⟩
  guard := ⟨none, none⟩
  arb := ⟨none, 0, 0, .recorded .none⟩
  dev := ⟨false, false, 0, 4, 0⟩
  nu := ⟨[], 0, false, 0, 0, .idle⟩
  chans := Vector.replicate 8 Channel.reset
  lanes := Vector.replicate 4 Lane.reset

end Sys2Proof.Machine
end

