-- ==== Sys2Proof/Machine/Operands.lean ====
section
/-! DEFINITION. The word layouts of chapter 11 (R174) and the use of byte enables (R8): how every setup word, the slot
header and the notice record are taken apart and put together. -/

namespace Sys2Proof.Machine

/-! ### Bytes and fields of a word -/

/-- The bits of a word that the active byte enables select (R8). -/
def enableMask (be : Enables) : Word :=
  (if be.getLsbD 0 then 0x000000FF else 0) ||| (if be.getLsbD 1 then 0x0000FF00 else 0) |||
  (if be.getLsbD 2 then 0x00FF0000 else 0) ||| (if be.getLsbD 3 then 0xFF000000 else 0)

/-- A setup word after a write: the written bytes from the data, the others from the shadow (R8). -/
def mergeBytes (be : Enables) (old new : Word) : Word :=
  (new &&& enableMask be) ||| (old &&& ~~~(enableMask be))

/-- The field of `width` bits whose lowest bit is `lo`. -/
def field (w : Word) (lo width : Nat) : BitVec width := w.extractLsb' lo width

/-- A field placed in a word with its lowest bit at `lo`. -/
def place {n : Nat} (lo : Nat) (x : BitVec n) : Word := x.setWidth 32 <<< lo

/-- One bit placed at `lo`. -/
def placeBit (lo : Nat) (b : Bool) : Word := place lo (BitVec.ofBool b)

/-! ### The map of the setup area (section 11.1) -/

/-- The words of the setup area. -/
inductive SetupWord where
  | deviceControl | ringBase | consumerIndex | producerIndex | deviceStatus
  | laneMode (n : LaneId) | laneTimer (n : LaneId) | laneMirror (n : LaneId) | laneStatus (n : LaneId)
  | chanControl (c : ChanId) | chanBase (c : ChanId) | chanGeometry (c : ChanId) | chanStall (c : ChanId)
  | enableSet (c : ChanId) | enableClear (c : ChanId) | chanStatus (c : ChanId) | chanCounts (c : ChanId)
  | unused
  deriving DecidableEq, Repr

/-- The word of lane n's block, by its place among the block's four words. -/
def laneWordAt (n : LaneId) (i : Nat) : SetupWord :=
  match i with
  | 0 => .laneMode n
  | 1 => .laneTimer n
  | 2 => .laneMirror n
  | _ => .laneStatus n

/-- The word of channel c's block, by its place among the block's eight words. -/
def chanWordAt (c : ChanId) (i : Nat) : SetupWord :=
  match i with
  | 0 => .chanControl c
  | 1 => .chanBase c
  | 2 => .chanGeometry c
  | 3 => .chanStall c
  | 4 => .enableSet c
  | 5 => .enableClear c
  | 6 => .chanStatus c
  | _ => .chanCounts c

/-- The word of the device block, by its place among the block's five words. -/
def deviceWordAt (i : Nat) : SetupWord :=
  match i with
  | 0 => .deviceControl
  | 1 => .ringBase
  | 2 => .consumerIndex
  | 3 => .producerIndex
  | 4 => .deviceStatus
  | _ => .unused

/-- The word at a setup offset (section 11.1). -/
def setupWordAt (offset : Nat) : SetupWord :=
  if offset < 0x40 then deviceWordAt (offset / 4)
  else if offset < 0x80 then laneWordAt (Fin.ofNat 4 ((offset - 0x40) / 16)) ((offset - 0x40) % 16 / 4)
  else if offset < 0x100 then .unused
  else chanWordAt (Fin.ofNat 8 ((offset - 0x100) / 32)) ((offset - 0x100) % 32 / 4)

/-- The setup offset of lane n's mirror word. -/
def mirrorWordOffset (n : LaneId) : Nat := 0x48 + 0x10 * n.val

/-! ### Codes -/

/-- The codes of LaneMode (R85). -/
def LaneMode.code : LaneMode → BitVec 2
  | .mirror => 0
  | .send => 1
  | .receive => 2
  | .duplex => 3

/-- The mode of a code. -/
def LaneMode.ofCode (b : BitVec 2) : LaneMode :=
  if b = 0 then .mirror else if b = 1 then .send else if b = 2 then .receive else .duplex

/-- The codes of Direction (R37). -/
def Direction.code : Direction → BitVec 1
  | .outbound => 0
  | .inbound => 1

/-- The direction of a code. -/
def Direction.ofCode (b : BitVec 1) : Direction := if b = 0 then .outbound else .inbound

/-- The codes of the header's STATE field (R61, section 11.5). -/
def SlotState.code : SlotState → BitVec 3
  | .free => 0
  | .committed => 1
  | .sending => 2
  | .failed => 3
  | .filling => 4
  | .ready => 5

/-- The reason codes of run validation (R44). -/
def RunReason.code : RunReason → BitVec 4
  | .inactive => 1
  | .guardCode => 2
  | .geometry => 3
  | .align => 4
  | .range => 5
  | .overlapSetup => 6
  | .overlapRing => 7
  | .overlapChannel => 8
  | .laneMode => 9
  | .routeTaken => 10
  | .stallLimit => 11

/-- The kind codes of notices (R165). -/
def NoticeKind.code : NoticeKind → Byte
  | .txDone => 1
  | .txFailed => 2
  | .rxReady => 3
  | .rxDropped => 4
  | .routeMiss => 5
  | .guardDiscard => 6
  | .commitRefused => 7
  | .setupRejected => 8
  | .mirrorChange => 9

/-- The codes of a channel's STATE (R59). -/
def ChanState.code : ChanState → BitVec 2
  | .off => 0
  | .running => 1
  | .rejected _ => 2

/-- REASON: the failed check while REJECTED, 0 otherwise (R38). -/
def ChanState.reason : ChanState → BitVec 4
  | .rejected why => why.code
  | _ => 0

/-- RUN reads 1 while RUNNING or REJECTED and 0 while OFF (R38). -/
def ChanState.run : ChanState → Bool
  | .off => false
  | _ => true

/-- The codes of TURN (R104). -/
def Turn.code : Turn → BitVec 2
  | .idle => 0
  | .out => 1
  | .inn => 2

/-- The codes of RECV_STATE (R104). -/
def RecvState.code : RecvState → BitVec 3
  | .idle => 0
  | .slotWait _ _ => 1
  | .filling _ => 2
  | .closing _ => 3
  | .discarding => 4

/-- The codes of SEND_STATE (R104): S_IDLE, S_OFFERING, S_STARVED. -/
def SendSide.stateCode (x : SendSide) : BitVec 2 :=
  match x.cur with
  | none => 0
  | some r => if r.offering then 1 else 2

/-- The SOURCE byte of a channel (R165). -/
def chanSource (c : ChanId) : Byte := BitVec.ofNat 8 c.val

/-- The SOURCE byte of a lane: 10h + n (R165). -/
def laneSource (n : LaneId) : Byte := BitVec.ofNat 8 (0x10 + n.val)

/-- The SOURCE byte of the device (R165). -/
def deviceSource : Byte := 0xFF

/-- The SLOT byte of a notice that concerns no slot (R165). -/
def noSlot : Byte := 0xFF

/-! ### Setup words, as the shadow holds them (R23) -/

/-- Device control; RESTART reads 0. -/
def DeviceShadow.control (d : DeviceShadow) : Word :=
  placeBit 0 d.active ||| placeBit 1 d.irqEn ||| place 8 d.ringSize ||| place 16 d.patience

/-- A lane's mode word. -/
def Lane.modeWord (l : Lane) : Word :=
  place 0 l.mode.code ||| placeBit 2 l.missNote ||| place 8 l.dir ||| place 19 l.watch

/-- A lane's timer word. -/
def Lane.timerWord (l : Lane) : Word :=
  place 0 l.byteLimit ||| place 8 l.takeLimit ||| place 16 l.slotWait

/-- A channel's control word. -/
def Channel.control (ch : Channel) : Word :=
  placeBit 0 ch.state.run ||| place 1 ch.dir.code ||| place 4 (BitVec.ofFin (w := 2) ch.lane) |||
  place 8 ch.route ||| place 16 ch.guard

/-- A channel's geometry word. -/
def Channel.geometry (ch : Channel) : Word := place 0 ch.sizeCode ||| place 8 ch.count

/-! ### The slot header (section 11.5) -/

/-- The LENGTH of a header write: present when both its bytes are enabled (R64). -/
def headerLength (be : Enables) (data : Word) : Option Nat :=
  if be.getLsbD 0 && be.getLsbD 1 then some (field data 0 16).toNat else none

/-- The header the receive mover writes at the close (R135). -/
def closingHeader (len : Nat) (seq : Byte) (truncated : Bool) : Word :=
  place 0 (BitVec.ofNat 16 len) ||| place 16 seq ||| place 24 SlotState.ready.code ||| placeBit 31 truncated

/-- A header read with the overlay applied: STATE replaced, and SEQ where the snapshot has one (R11, R79). -/
def Overlay.apply (o : Overlay) (w : Word) : Word :=
  let w := (w &&& 0xF8FFFFFF) ||| place 24 o.state.code
  match o.seq with
  | some q => (w &&& 0xFF00FFFF) ||| place 16 q
  | none => w

/-! ### Notice records (section 11.6) -/

/-- Word 0 of a notice record. -/
def Notice.word0 (x : Notice) : Word :=
  place 0 x.kind.code ||| place 8 x.source ||| place 16 x.slot ||| place 24 x.seq

/-- Word 1 of a notice record. -/
def Notice.word1 (x : Notice) : Word := place 0 x.detail ||| place 16 x.number

/-- The DETAIL of GUARD_DISCARD: the word offset in bits 9:0 and the cause in bits 15:14 (R80). -/
def guardDetail (word : Nat) (cause : BitVec 2) : BitVec 16 :=
  (BitVec.ofNat 10 word).setWidth 16 ||| (cause.setWidth 16 <<< 14)

/-- The DETAIL of RX_READY: LENGTH in bits 11:0, bit 15 set when truncated (R141). -/
def readyDetail (len : Nat) (truncated : Bool) : BitVec 16 :=
  (BitVec.ofNat 12 len).setWidth 16 ||| ((BitVec.ofBool truncated).setWidth 16 <<< 15)

/-! ### Payload words -/

/-- Byte p of a word, p = 0 at the lowest address. -/
def byteOf (w : Word) (p : Nat) : Byte := field w (8 * p) 8

/-- The first n byte enables, from the lowest address (R114, R135). -/
def lowEnables (n : Nat) : Enables := BitVec.ofNat 4 (2 ^ n - 1)

/-- The first n bytes of a word in ascending address order (R115). -/
def lowBytes (w : Word) (n : Nat) : List Byte := (List.range n).map (byteOf w)

/-- A word from its four bytes in ascending address order (R132). -/
def wordOf (b0 b1 b2 b3 : Byte) : Word := place 0 b0 ||| place 8 b1 ||| place 16 b2 ||| place 24 b3

end Sys2Proof.Machine
end

