-- ==== Sys2Proof/Machine/Ops.lean ====
section
/-! DEFINITION. The named operations over the state that every block uses: reading and writing its records, timers,
counts, the generation of notices and the start of their writer, and the waking of a held write. -/

namespace Sys2Proof.Machine

/-! ### Access to the records -/

/-- Lane n's record. -/
def State.lane (s : State) (n : LaneId) : Lane := s.lanes[n]

/-- Channel c's record. -/
def State.chan (s : State) (c : ChanId) : Channel := s.chans[c]

/-- Replaces lane n's record. -/
def State.setLane (s : State) (n : LaneId) (l : Lane) : State := { s with lanes := s.lanes.set n l }

/-- Replaces channel c's record. -/
def State.setChan (s : State) (c : ChanId) (ch : Channel) : State := { s with chans := s.chans.set c ch }

/-- Replaces the host port's record. -/
def State.withHost (s : State) (h : HostSide) : State := { s with host := h }

/-- Replaces the guard's state. -/
def State.withGuard (s : State) (g : GuardState) : State := { s with guard := g }

/-- Replaces the arbiter's state. -/
def State.withArb (s : State) (a : Arbiter) : State := { s with arb := a }

/-- Replaces the device block of the shadow. -/
def State.withDev (s : State) (d : DeviceShadow) : State := { s with dev := d }

/-- Replaces the notice unit's state. -/
def State.withNu (s : State) (x : NoticeUnit) : State := { s with nu := x }

/-- Replaces lane n's send side. -/
def State.setSnd (s : State) (n : LaneId) (x : SendSide) : State := s.setLane n { s.lane n with snd := x }

/-- Replaces lane n's receive side. -/
def State.setRcv (s : State) (n : LaneId) (x : RecvSide) : State := s.setLane n { s.lane n with rcv := x }

/-- Replaces lane n's turn arbiter. -/
def State.setTurn (s : State) (n : LaneId) (x : TurnState) : State := s.setLane n { s.lane n with turn := x }

/-- The record of slot k of a channel; a slot without one is FREE (R61). -/
def Channel.slot (ch : Channel) (k : Nat) : SlotRec := ch.slots.getD k SlotRec.free

/-- The record of slot k of channel c. -/
def State.slot (s : State) (c : ChanId) (k : Nat) : SlotRec := (s.chan c).slot k

/-- Replaces the record of slot k of channel c. -/
def State.setSlot (s : State) (c : ChanId) (k : Nat) (r : SlotRec) : State :=
  s.setChan c { s.chan c with slots := (s.chan c).slots.set k r }

/-- The channels in order. -/
def allChans : List ChanId := [0, 1, 2, 3, 4, 5, 6, 7]

/-- The lanes in order. -/
def allLanes : List LaneId := [0, 1, 2, 3]

/-! ### Slot arrays and extents -/

/-- The channel is RUNNING. -/
def Channel.running (ch : Channel) : Bool := ch.state == .running

/-- SIZE = 16 × 2^SIZE_CODE bytes (R37). -/
def Channel.size (ch : Channel) : Nat := 16 * 2 ^ ch.sizeCode.toNat

/-- The payload capacity of a slot, SIZE − 4 bytes (R60). -/
def Channel.capacity (ch : Channel) : Nat := ch.size - 4

/-- A half-open range of byte addresses. The manual's inclusive extents (R45) end one byte before `stop`. -/
structure Extent where
  first : Nat
  stop : Nat
  deriving DecidableEq, Repr

/-- Two extents share a byte (R45). -/
def Extent.overlaps (a b : Extent) : Bool :=
  decide (a.first < b.stop ∧ b.first < a.stop ∧ a.first < a.stop ∧ b.first < b.stop)

/-- An address lies in the extent. -/
def Extent.contains (e : Extent) (a : Nat) : Bool := decide (e.first ≤ a ∧ a < e.stop)

/-- A channel's slot array, BASE to BASE + COUNT × SIZE − 1 (R37). -/
def Channel.extent (ch : Channel) : Extent :=
  ⟨ch.base.toNat, ch.base.toNat + ch.count.toNat * ch.size⟩

/-- The setup area's base, SBASE × 10000h (R19). -/
def State.setupBase (s : State) : Nat := s.sbase.toNat * 0x10000

/-- The setup area's 512 bytes (R19). -/
def State.setupExtent (s : State) : Extent := ⟨s.setupBase, s.setupBase + 512⟩

/-- The number of records a RING_SIZE names; 0 for no ring (R166). Code 7 names none (R29). -/
def ringRecords (size : BitVec 3) : Nat := if size = 0 ∨ size = 7 then 0 else 4 * 2 ^ size.toNat

/-- The ring of a base and a RING_SIZE (R166). -/
def ringExtent (base : Addr) (size : BitVec 3) : Extent := ⟨base.toNat, base.toNat + 8 * ringRecords size⟩

/-- The byte address of slot k's word i (R60). -/
def Channel.wordAddr (ch : Channel) (k i : Nat) : Addr := BitVec.ofNat 24 (ch.base.toNat + k * ch.size + 4 * i)

/-! ### Timers -/

/-- A lane timer at its start: L × 64 µs from now, not started with L = 0 (R90, log entry 16). -/
def startLaneTimer (now : Nat) (limit : BitVec 8) : Option Nat :=
  if limit = 0 then none else some (now + limit.toNat * 64)

/-- A running timer has reached its deadline (R74, R90). -/
def timerDue (now : Nat) (t : Option Nat) : Bool :=
  match t with
  | some deadline => decide (deadline ≤ now)
  | none => false

/-! ### Counts (R57, R58) -/

/-- DONE counts one record, modulo 65536 (R57). -/
def State.countDone (s : State) (c : ChanId) : State := s.setChan c { s.chan c with done := (s.chan c).done + 1 }

/-- FAULTS counts one event, modulo 65536 (R58). -/
def State.countFault (s : State) (c : ChanId) : State := s.setChan c { s.chan c with faults := (s.chan c).faults + 1 }

/-! ### Notices -/

/-- Ring occupancy, (producer − consumer) mod 65536 (R166). -/
def NoticeUnit.occupancy (x : NoticeUnit) : BitVec 16 := x.prod - x.cons

/-- The writer can start a notice (R167): it is IDLE, a notice is pending, a ring is configured and has room. -/
def State.writerReady (s : State) : Bool :=
  s.nu.writer == .idle && !s.nu.list.isEmpty && decide (s.nu.occupancy.toNat < ringRecords s.dev.ringSize)

/-- The writer starts the head notice if it can: it presents word 0 (R167). -/
def State.startWriter (s : State) : State :=
  if s.writerReady then s.withNu { s.nu with writer := .word0Waiting } else s

/-- Generates a notice whose gate is open (R164): nothing while RING_SIZE is 0; else it takes the next NUMBER and joins
the pending list, or is dropped with LOST set when 8 notices are pending. -/
def State.generate (s : State) (kind : NoticeKind) (source slot seq : Byte) (detail : BitVec 16) : State :=
  if s.dev.ringSize = 0 then s
  else if s.nu.list.length < 8 then
    (s.withNu { s.nu with
      number := s.nu.number + 1
      list := s.nu.list ++ [⟨kind, source, slot, seq, detail, s.nu.number⟩] }).startWriter
  else s.withNu { s.nu with number := s.nu.number + 1, lost := true }

/-- The enable bit that gates a channel notice (R53); the other kinds pass no channel gate. -/
def NoticeKind.enableBit : NoticeKind → Option Nat
  | .txDone => some 0
  | .txFailed => some 1
  | .rxReady => some 2
  | .rxDropped => some 3
  | .guardDiscard => some 4
  | .commitRefused => some 5
  | .routeMiss => none
  | .setupRejected => none
  | .mirrorChange => none

/-- The channel's gate for a kind is open (R53). -/
def Channel.enabled (ch : Channel) (kind : NoticeKind) : Bool :=
  match kind.enableBit with
  | some b => ch.enables.getLsbD b
  | none => true

/-- Generates a notice of channel c about a slot, if its gate is open at this moment (R53). -/
def State.chanNotice (s : State) (c : ChanId) (kind : NoticeKind) (slot seq : Byte) (detail : BitVec 16) : State :=
  if (s.chan c).enabled kind then s.generate kind (chanSource c) slot seq detail else s

/-- Generates SETUP_REJECTED for the block `source` with a reason code (R20); it passes no gate. -/
def State.setupRejected (s : State) (source : Byte) (reason : BitVec 16) : State :=
  s.generate .setupRejected source noSlot 0 reason

/-! ### Waking a held write (R75) -/

/-- Returns the write in HP_HELD to HP_WAITING if it waits for what `p` tells. -/
def State.wake (s : State) (p : HeldWrite → Bool) : State :=
  match s.host.port, s.guard.held with
  | .held r, some h => if p h then s.withHost { s.host with port := .waiting r } else s
  | _, _ => s

/-- A slot has become host-owned: a write held for it with reason SLOT is woken (R75). -/
def State.wakeSlot (s : State) (c : ChanId) (k : Nat) : State :=
  s.wake fun h => h.reason == .slot && h.chan == c && h.slot == k

/-- An entry has left lane n's send queue: a commit held with reason QUEUE for that lane is woken (R75, R108). -/
def State.wakeQueue (s : State) (n : LaneId) : State :=
  s.wake fun h => h.reason == .queue && (s.chan h.chan).lane == n

/-- A slot passes to FREE, its length and sequence number becoming 0, and the guard is told (R61, R75). -/
def State.freeSlot (s : State) (c : ChanId) (k : Nat) : State := (s.setSlot c k SlotRec.free).wakeSlot c k

end Sys2Proof.Machine
end

