-- ==== Sys2Proof/Machine/Flags.lean ====
section
/-! DEFINITION. The part's derived signals and live values: the interrupt line, the host port's outputs, which lane lines
the part drives and at what level, the level a pin carries, and the live setup words. -/

namespace Sys2Proof.Machine

/-! ### Interrupt and host outputs -/

/-- IRQ is asserted exactly while IRQ_EN is 1 and either occupancy is above 0 or LOST is 1 (R173). -/
def State.irq (s : State) : Bool := s.dev.irqEn && (s.nu.occupancy != 0 || s.nu.lost)

/-- HWAIT is held in every host port state but HP_IDLE (R1). -/
def State.hwait (s : State) : Bool :=
  match s.host.port with
  | .idle => false
  | _ => true

/-- HERR, kept from the answer until the host releases its strobe (R1). -/
def State.herr (s : State) : Bool :=
  match s.host.answer with
  | some a => a.herr
  | none => false

/-- The read data the port drives on HD, if it drives any (R1). -/
def State.hd (s : State) : Option Word :=
  match s.host.answer with
  | some a => a.data
  | none => none

/-! ### Lane lines (R86, R87, R156) -/

/-- The other lane of the even-odd pair. -/
def mate (n : LaneId) : LaneId :=
  match n with
  | 0 => 1
  | 1 => 0
  | 2 => 3
  | 3 => 2

/-- The lane is odd. -/
def oddLane (n : LaneId) : Bool := n == 1 || n == 3

/-- The odd lane n lends its control lines to its even partner in DUPLEX (R87). -/
def State.lending (s : State) (n : LaneId) : Bool := oddLane n && (s.lane (mate n)).mode == .duplex

/-- The lane's receive side may take puts: RECEIVE, or DUPLEX in T_IN (R96). -/
def Lane.takesPuts (l : Lane) : Bool :=
  l.mode == .receive || (l.mode == .duplex && l.turn.turn == .inn)

/-- ROOM is asserted while the buffer holds fewer than 16 entries and, on a DUPLEX lane, the turn is T_IN (R96). -/
def Lane.room (l : Lane) : Bool := l.takesPuts && decide (l.rcv.rx.length < 16)

/-- OFFER is asserted (R91). -/
def SendSide.offerLine (x : SendSide) : Bool :=
  match x.cur with
  | some r => r.offering
  | none => false

/-- MARK as the send side drives it: with the offer of the last byte (R91) and through an abort strobe (R94). -/
def SendSide.markLine (x : SendSide) : Bool :=
  (match x.cur with
    | some r => r.offering && r.offered == r.len
    | none => false) || x.strobe.isSome

/-- D0 to D7 in a line mask. -/
def dataMask : Lines := 0x0FF

/-- C0, C1 and C2 as line positions (section 11.3). -/
def lineC (i : Nat) : Lines := 1#11 <<< (8 + i)

/-- One control line's level at its position. -/
def levelC (i : Nat) (b : Bool) : Lines := if b then lineC i else 0

/-- The lines of lane n that the part drives (R86, R87, R156). -/
def State.driven (s : State) (n : LaneId) : Lines :=
  let l := s.lane n
  match l.mode with
  | .mirror => if s.lending n then (l.dir &&& dataMask) ||| lineC 1 else l.dir
  | .send => dataMask ||| lineC 0 ||| lineC 2
  | .receive => lineC 1
  | .duplex => if l.turn.turn = .out then dataMask ||| lineC 0 ||| lineC 2 else lineC 0

/-- The level the part gives each line it drives (R86, R91, R94, R96, R156). -/
def State.driveLevel (s : State) (n : LaneId) : Lines :=
  let l := s.lane n
  match l.mode with
  | .mirror =>
    if s.lending n then (l.mir.latch &&& dataMask) ||| levelC 1 (s.lane (mate n)).room else l.mir.latch
  | .receive => levelC 1 l.room
  | .send => l.snd.data.setWidth 11 ||| levelC 0 l.snd.offerLine ||| levelC 2 l.snd.markLine
  | .duplex => l.snd.data.setWidth 11 ||| levelC 0 l.snd.offerLine ||| levelC 2 l.snd.markLine

/-- The lines of lane n that are inputs of the part. -/
def State.inputs (s : State) (n : LaneId) : Lines := ~~~(s.driven n)

/-- The live level of each of lane n's pins (R159): the driven level on a line that the part alone drives, the outside
level on the others; a contended line carries what it settles to (R156). -/
def State.liveLines (s : State) (pins : Pins) (n : LaneId) : Lines :=
  let own := s.driven n &&& ~~~(pins.lane n).contended
  (s.driveLevel n &&& own) ||| ((pins.lane n).level &&& ~~~own)

/-! ### Live setup words -/

/-- OWNED: the channel's slots in a part-owned state (R59). -/
def Channel.owned (ch : Channel) : Nat :=
  (ch.slots.filter fun r => r.state == .committed || r.state == .sending || r.state == .filling).length

/-- A channel's status word (R59). -/
def Channel.statusWord (ch : Channel) : Word :=
  place 0 ch.state.code ||| place 4 ch.state.reason ||| place 8 ch.seqCtr ||| place 16 (BitVec.ofNat 7 ch.owned)

/-- A channel's counts word (R59). -/
def Channel.countsWord (ch : Channel) : Word := place 0 ch.done ||| place 16 ch.faults

/-- A lane's status word (R104). -/
def Lane.statusWord (l : Lane) : Word :=
  place 0 l.snd.stateCode ||| place 4 l.rcv.state.code ||| place 8 l.turn.turn.code |||
  placeBit 12 l.mir.changeHeld ||| place 16 (BitVec.ofNat 5 l.snd.queue.length) |||
  place 24 (BitVec.ofNat 5 l.rcv.rx.length)

/-- The device status word (R30). -/
def State.deviceStatusWord (s : State) : Word :=
  placeBit 0 s.dev.active ||| placeBit 1 s.nu.lost ||| placeBit 2 s.irq |||
  place 8 (BitVec.ofNat 4 s.nu.list.length) ||| place 16 (s.nu.occupancy.setWidth 9)

/-- The word a setup read returns (R23). -/
def State.setupReadWord (s : State) (pins : Pins) (w : SetupWord) : Word :=
  match w with
  | .deviceControl => s.dev.control
  | .ringBase => place 0 s.dev.ringBase
  | .consumerIndex => place 0 s.nu.cons
  | .producerIndex => place 0 s.nu.prod
  | .deviceStatus => s.deviceStatusWord
  | .laneMode n => (s.lane n).modeWord
  | .laneTimer n => (s.lane n).timerWord
  | .laneMirror n => place 0 (s.liveLines pins n)
  | .laneStatus n => (s.lane n).statusWord
  | .chanControl c => (s.chan c).control
  | .chanBase c => place 0 (s.chan c).base
  | .chanGeometry c => (s.chan c).geometry
  | .chanStall c => place 0 (s.chan c).stallLimit
  | .enableSet c => place 0 (s.chan c).enables
  | .enableClear c => place 0 (s.chan c).enables
  | .chanStatus c => (s.chan c).statusWord
  | .chanCounts c => (s.chan c).countsWord
  | .unused => 0

end Sys2Proof.Machine
end

