-- ==== Sys2Proof/Machine/Arbiter.lean ====
section
/-! DEFINITION. The memory port arbiter (chapter 8): the ten requesters' presented requests, the choice between them, the
grant of an internal request, and the word access each requester makes. -/

namespace Sys2Proof.Machine

/-! ### Requests -/

/-- The requester at each position of the circle (R145). -/
def requesterAt (p : Fin 9) : Requester :=
  match p with
  | 0 => .notice
  | 1 => .send 0
  | 2 => .recv 0
  | 3 => .send 1
  | 4 => .recv 1
  | 5 => .send 2
  | 6 => .recv 2
  | 7 => .send 3
  | 8 => .recv 3

/-- The requester has a request presented: the host while in HP_WAITING, the writer and the movers while WAITING
(R145). -/
def State.presented (s : State) (who : Requester) : Bool :=
  match who with
  | .host => match s.host.port with
    | .waiting _ => true
    | _ => false
  | .notice => s.nu.writer == .word0Waiting || s.nu.writer == .word1Waiting
  | .send n => (s.lane n).snd.mover == .waiting
  | .recv n => (s.lane n).rcv.mover == .waiting

/-- The positions of the circle in order from a pointer (R149). -/
def circleFrom (rr : Fin 9) : List (Fin 9) :=
  [rr, rr + 1, rr + 2, rr + 3, rr + 4, rr + 5, rr + 6, rr + 7, rr + 8]

/-- All ten requesters, the host first (R145). -/
def allRequesters : List Requester :=
  [.host, .notice, .send 0, .recv 0, .send 1, .recv 1, .send 2, .recv 2, .send 3, .recv 3]

/-! ### The contenders of a decision (R147) -/

/-- The requesters that have a request presented. -/
def State.asking (s : State) : List Requester := allRequesters.filter s.presented

/-- The contenders that still have their request presented: a withdrawn request takes no part in the next decision (R152). -/
def Contenders.still (c : Contenders) (s : State) : Contenders :=
  ⟨c.standing.filter s.presented, c.joining.filter s.presented, c.alone.filter s.presented⟩

/-- The requests that the decision at a FREE port is among (R147). With no earlier contender left, they are those that a FREE
port without a request has been presented with since. -/
def State.contenders (s : State) : Contenders :=
  match s.arb.contest with
  | .opened standing =>
    ⟨standing.filter s.presented, s.asking.filter fun who => !standing.contains who, []⟩
  | .recorded found => if found.still s = .none then ⟨[], [], s.asking⟩ else found.still s

/-- The requester's request was presented when the port became FREE: it is among those of the decision (R147). -/
def State.stands (s : State) (who : Requester) : Bool := s.contenders.standing.contains who

/-- The requester's request was presented at the moment the port became FREE: it may be among those of the decision, or be
taken after it (R147, R153). -/
def State.joins (s : State) (who : Requester) : Bool := s.contenders.joining.contains who

/-- The requester's request was presented at a FREE port, with no other waiting (R147). -/
def State.alone (s : State) (who : Requester) : Bool := s.contenders.alone.contains who

/-- The next grant may be to this requester's request. One presented while a decision or an earlier request is still to be
granted does not contend: it waits for that access to complete (R147). -/
def State.contends (s : State) (who : Requester) : Bool := s.stands who || s.joins who || s.alone who

/-- The effect of an event that may present or withdraw requests: t, with what the decision was among before the event kept,
where it has changed the requests at a FREE port (R147, R152). -/
def State.noting (s t : State) : State :=
  if s.arb.port.isNone && allRequesters.any (fun who => s.presented who != t.presented who) then
    t.withArb { t.arb with contest := .recorded s.contenders }
  else t

/-- Some internal requester's request stands. -/
def State.internalStands (s : State) : Bool := (circleFrom s.arb.rr).any fun p => s.stands (requesterAt p)

/-- Some internal requester's request joins. -/
def State.internalJoins (s : State) : Bool := (circleFrom s.arb.rr).any fun p => s.joins (requesterAt p)

/-- Some internal requester's request contends. -/
def State.internalContends (s : State) : Bool := (circleFrom s.arb.rr).any fun p => s.contends (requesterAt p)

/-- The positions that an internal grant may go to, in circle order from the pointer (R149): the first whose request stands,
and before it the other contenders, each of which may have been taken before it (R147, R153). -/
def State.candidates (s : State) : List (Fin 9) :=
  let waiting := (circleFrom s.arb.rr).filter fun p => s.contends (requesterAt p)
  waiting.takeWhile (fun p => !s.stands (requesterAt p)) ++ (waiting.find? fun p => s.stands (requesterAt p)).toList

/-- The position of the internal requester that an internal grant goes to: the one candidate, or of several the one that a
free value names (R147, R149, log entry 25). -/
def State.nextInternal (s : State) : Option (Fin 9) :=
  match s.candidates with
  | [] => none
  | [p] => some p
  | p :: rest => some ((p :: rest).getD (Config.takenFirst s.freeCount % (p :: rest).length) p)

/-- A decision between the host and the standing internal requests goes to the host (R148). -/
def State.hostPreferred (s : State) : Bool :=
  !s.internalStands || decide (s.arb.patienceCtr < s.dev.patience)

/-- The arbiter can grant the host now (R147, R148): the port is FREE, the host's request contends, and it is preferred to the
standing internal requests. Internal requests that came at the same moment are then taken after it, or lose to it. -/
def State.hostWins (s : State) : Bool :=
  s.arb.port.isNone && s.contends .host && s.hostPreferred

/-- The arbiter can make an internal grant now (R147, R148): the port is FREE, an internal request contends, and the host's
request does not stand, so that it may be taken after, or patience is used up. -/
def State.internalWins (s : State) : Bool :=
  s.arb.port.isNone && s.internalContends && (!s.stands .host || decide (s.dev.patience ≤ s.arb.patienceCtr))

/-! ### Accesses -/

/-- A host access on the memory port: address, enables and write data as recorded (R6, R8). -/
def HostRecord.access (r : HostRecord) : MemAccess :=
  ⟨r.addr, r.be, if r.write then some r.data else none⟩

/-- The notice writer's access: word 0 or word 1 of the head notice, at the record the producer index names, with all
four enables (R166, R167). -/
def State.noticeAccess (s : State) (x : Notice) : MemAccess :=
  let at0 := s.dev.ringBase.toNat + 8 * (s.nu.prod.toNat % ringRecords s.dev.ringSize)
  if s.nu.writer == .word1Waiting then ⟨BitVec.ofNat 24 (at0 + 4), 0xF, some x.word1⟩
  else ⟨BitVec.ofNat 24 at0, 0xF, some x.word0⟩

/-- How many payload bytes the next read of a record selects: four, or what is left (R114). -/
def SendRecord.nextCount (r : SendRecord) : Nat := min 4 (r.len - r.read)

/-- The send mover's access: payload word bytes read / 4 + 1 of the slot being sent (R114). -/
def State.sendAccess (s : State) (r : SendRecord) : MemAccess :=
  ⟨(s.chan r.chan).wordAddr r.slot (r.read / 4 + 1), lowEnables r.nextCount, none⟩

/-- Byte place p of the gather word; a place with no gathered byte carries a free value (R135, log entry 7). -/
def State.gatherByte (s : State) (g : List Byte) (p : Nat) : Byte :=
  g.getD p (Config.unselectedByte (4 * s.freeCount + p))

/-- The receive mover's access while it gathers or closes (R132, R135): the gather word at payload word
1 + j / 4, where j is its first byte's place in the record, or the header when nothing is gathered. -/
def State.recvAccess (s : State) (rcv : RecvSide) (r : FillRecord) : MemAccess :=
  let ch := s.chan r.chan
  let sl := s.slot r.chan r.slot
  let g := rcv.gather
  if g.isEmpty then ⟨ch.wordAddr r.slot 0, 0xF, some (closingHeader sl.len ch.seqCtr r.truncated)⟩
  else ⟨ch.wordAddr r.slot ((sl.len - g.length) / 4 + 1), lowEnables g.length,
    some (wordOf (s.gatherByte g 0) (s.gatherByte g 1) (s.gatherByte g 2) (s.gatherByte g 3))⟩

/-- The word access an internal requester's request names (R145), if its record stands. -/
def State.internalAccess (s : State) (who : Requester) : Option MemAccess :=
  match who with
  | .host => none
  | .notice => s.nu.list.head?.map s.noticeAccess
  | .send n => (s.lane n).snd.cur.map s.sendAccess
  | .recv n => match (s.lane n).rcv.state with
    | .filling r => some (s.recvAccess (s.lane n).rcv r)
    | .closing r => some (s.recvAccess (s.lane n).rcv r)
    | _ => none

/-! ### Grants -/

/-- The requester's own record of its grant: the mover or the writer passes from WAITING to its memory cycle. -/
def State.markGranted (s : State) (who : Requester) : State :=
  match who with
  | .host => s
  | .notice => s.withNu { s.nu with
      writer := if s.nu.writer == .word1Waiting then .word1Writing else .word0Writing }
  | .send n => s.setSnd n { (s.lane n).snd with mover := .busy }
  | .recv n => s.setRcv n { (s.lane n).rcv with mover := .busy }

/-- A partial payload word of a receive mover uses free values for its unselected places. -/
def State.usesFreeBytes (s : State) (who : Requester) : Bool :=
  match who with
  | .recv n => !(s.lane n).rcv.gather.isEmpty && decide ((s.lane n).rcv.gather.length < 4)
  | _ => false

/-- Advances the count of free values. -/
def State.drawFree (s : State) (b : Bool) : State := if b then { s with freeCount := s.freeCount + 1 } else s

/-- An internal grant to the requester at position p (R146, R149, R150): the port becomes BUSY with its access, the
pointer moves past it, and the patience counter becomes 0. -/
def State.grantInternal (s : State) (p : Fin 9) : State :=
  match s.internalAccess (requesterAt p) with
  | some a =>
    let t := (s.markGranted (requesterAt p)).drawFree (s.usesFreeBytes (requesterAt p) || decide (1 < s.candidates.length))
    t.withArb ⟨some ⟨requesterAt p, a⟩, p + 1, 0, .recorded .none⟩
  | none => s

/-- MEMORY_PORT_GRANT (R147): the arbiter grants the port to the internal requester that patience and the round-robin
order choose. Where the arbiter makes no internal grant, nothing happens. That a due grant is a command, and other commands
may come before it, is the model's choice (log entry 20). -/
def execMemoryPortGrant (s : State) : Host.Outcome State Fault Refusal :=
  .next (if s.internalWins then
    match s.nextInternal with
    | some p => s.grantInternal p
    | none => s
  else s)

/-- The port becomes FREE at an access's completion (R146); the requests presented before that moment are those of the next
decision, with any that comes at the moment itself left open (R147, R153). -/
def State.freePort (s : State) : State :=
  s.withArb { s.arb with port := none, contest := .opened s.asking }

/-- No internal request stands at a host grant, and one that came at the moment the port became FREE may have been taken before
the decision, where patience is left for the host to win it then too (R147, R148, R153). A request presented with the host's
at a FREE port is no such one: the first taken is granted alone (R147). -/
def State.mayCount (s : State) : Bool :=
  !s.internalStands && s.internalJoins && decide (s.arb.patienceCtr < s.dev.patience)

/-- At a host grant the patience counter rises by one if an internal request is among those of the decision (R148): one that
stands, or one that came at the moment the port became FREE and was taken before the decision, which a free value says (log
entry 25). The host's request is no longer presented, and the internal ones wait: for the port's next decision, which comes at
this grant if it makes no memory cycle (R146). -/
def State.countPatience (s : State) : State :=
  let counts := s.internalStands || (s.mayCount && Config.takenInTime s.freeCount)
  (s.drawFree s.mayCount).withArb { s.arb with
    patienceCtr := if counts then s.arb.patienceCtr + 1 else s.arb.patienceCtr
    contest := .opened (allRequesters.tail.filter s.presented) }

end Sys2Proof.Machine
end

