-- ==== Sys2Proof/Machine/Outbound.lean ====
section
/-! DEFINITION. Outbound records (chapter 6) and the outbound exchange on the lines (R91 to R94): the send queue, the start
of a record, offers, takes, the send mover, completion, failure and the abort strobe. What a turn's end does stands in
Machine/Lanes.lean. -/

namespace Sys2Proof.Machine

/-! ### The send side alone -/

/-- The send mover presents its next read if it can (R114): a current record with unread bytes, the mover NONE, and at
least 4 bytes free in the transmit buffer. -/
def SendSide.present (x : SendSide) : SendSide :=
  match x.cur with
  | some r =>
    if x.mover = .none ∧ x.tx.length + 4 ≤ 16 ∧ r.read < r.len then { x with mover := .waiting } else x
  | none => x

/-- The side offers a byte of record r (R91): the byte goes on D0 to D7, OFFER is asserted, and the take timer
starts. -/
def SendSide.offer (x : SendSide) (timer : Option Nat) (b : Byte) (r : SendRecord) : SendSide :=
  { x with data := b, cur := some { r with offering := true }, takeTimer := timer }

/-- After a take or a read: the head byte of the transmit buffer is offered, and a read it makes room for is presented;
with the buffer empty the side is S_STARVED, with no timer (R92, R115, R116). -/
def SendSide.offerNext (x : SendSide) (timer : Option Nat) (r : SendRecord) : SendSide :=
  match x.tx with
  | b :: rest => ({ x with tx := rest }.offer timer b { r with offered := r.offered + 1 }).present
  | [] => { x with cur := some { r with offering := false }, takeTimer := none }

/-- A mover whose record ends: a waiting request is withdrawn, a cycle in progress is orphaned (R118, R138). -/
def Mover.endRecord : Mover → Mover
  | .waiting => .none
  | .busy => .orphaned
  | m => m

/-- The current record is abandoned (R93, R119, R121): offer withdrawn, take timer stopped, transmit buffer emptied,
mover's request withdrawn or orphaned, and the abort strobe begun; it ends 1 µs later (R94). A TAKE pulse that met the
offer meets it no longer (R92). -/
def SendSide.abandon (x : SendSide) (now : Nat) : SendSide :=
  { x with
    cur := none
    tx := []
    mover := x.mover.endRecord
    takeTimer := none
    strobe := some (now + 1)
    takePulse := x.takePulse.map fun _ => false }

/-! ### Starts -/

/-- The route byte of a channel's records: ROUTE in bits 3:0 (R111). -/
def routeByte (ch : Channel) : Byte := ch.route.setWidth 8

/-- The send side takes the head entry and makes it the current record (R110): the slot becomes SENDING, the route byte
is offered, the first read is presented, and the entry's leaving wakes a commit held for the queue (R108). Taken only
with the side S_IDLE and no abort strobe in progress (R109). -/
def State.startHead (s : State) (n : LaneId) : State :=
  let l := s.lane n
  match l.snd.queue, l.snd.cur, l.snd.strobe with
  | e :: rest, none, none =>
    let sl := s.slot e.chan e.slot
    let r : SendRecord := ⟨e.chan, e.slot, sl.len, 0, 0, true⟩
    let x := { l.snd with queue := rest, tx := [] }
    ((s.setSlot e.chan e.slot { sl with state := .sending }).setSnd n
      (x.offer (startLaneTimer s.now l.takeLimit) (routeByte (s.chan e.chan)) r).present).wakeQueue n
  | _, _, _ => s

/-! ### Failure -/

/-- The current record r of lane n fails (R118, R119): it is abandoned with an abort strobe, its slot becomes FAILED
keeping length and sequence number, FAULTS counts it, a write held for the slot is woken, and TX_FAILED is generated. -/
def State.failRecord (s : State) (n : LaneId) (r : SendRecord) (detail : BitVec 16) : State :=
  let sl := s.slot r.chan r.slot
  ((((s.setSnd n ((s.lane n).snd.abandon s.now)).setSlot r.chan r.slot { sl with state := .failed }).wakeSlot
    r.chan r.slot).countFault r.chan).chanNotice r.chan .txFailed (BitVec.ofNat 8 r.slot) sl.seq detail

/-- TAKE_TIMER_EXPIRY (R93, R118): the take timer of lane n has run out with a byte offered, and the record fails with
TAKE_TIMEOUT (1). With no timer due on the lane, nothing happens. -/
def execTakeTimerExpiry (n : LaneId) (s : State) : Host.Outcome State Fault Refusal :=
  .next (match (s.lane n).snd.cur with
    | some r =>
      if r.offering && timerDue s.now (s.lane n).snd.takeTimer then s.noting (s.failRecord n r 1) else s
    | none => s)

/-! ### The send mover -/

/-- A read of the current record r completes without MERR (R115): its bytes join the transmit buffer, a starved side
offers, and the next read is presented. -/
def State.readDone (s : State) (n : LaneId) (r : SendRecord) (data : Word) : State :=
  let l := s.lane n
  let r' := { r with read := r.read + r.nextCount }
  let x := { l.snd with tx := l.snd.tx ++ lowBytes data r.nextCount, mover := .none, cur := some r' }
  s.setSnd n (if r.offering then x.present
    else x.offerNext (startLaneTimer s.now l.takeLimit) r')

/-- SEND_MOVER_READ_COMPLETION (R115, R119, R120): the memory ends the read in progress of a send mover, with the word
read and MERR. An orphaned read's data and MERR are dropped. With no such read on the port, nothing happens. -/
def execSendMoverReadCompletion (data : Word) (merr : Bool) (s : State) : Host.Outcome State Fault Refusal :=
  .next (match s.arb.port with
    | some ⟨.send n, _⟩ =>
      let t := s.freePort
      let x := (s.lane n).snd
      match x.mover, x.cur with
      | .busy, some r =>
        if merr then (t.setSnd n { x with mover := .none }).failRecord n r 2 else t.readDone n r data
      | .orphaned, _ => t.setSnd n { x with mover := .none }.present
      | _, _ => t
    | _ => s)

/-! ### The TAKE pulse -/

/-- The lane has an OFFER line: SEND, or DUPLEX (R86). -/
def Lane.offersBytes (l : Lane) : Bool := l.mode == .send || l.mode == .duplex

/-- TAKE_ASSERTION (R92): the lane notes whether the pulse meets an offer. On a lane without a TAKE line the level has no
meaning. -/
def execTakeAssertion (n : LaneId) (s : State) : Host.Outcome State Fault Refusal :=
  .next (if (s.lane n).offersBytes then
    s.setSnd n { (s.lane n).snd with takePulse := some (s.lane n).snd.offerLine }
  else s)

end Sys2Proof.Machine
end

