-- ==== Sys2Proof/Machine/Inbound.lean ====
section
/-! DEFINITION. Inbound records (chapter 7): routing, slot choice, filling, closing, end marks and drops, and the
consumption of the receive buffer that drives them. -/

namespace Sys2Proof.Machine

/-! ### Dropping a record -/

/-- RX_DROPPED's detail of an end mark (R137). -/
def EndMark.detail : EndMark → BitVec 16
  | .abort => 1
  | .timeout => 2
  | .overrun => 3

/-- A record being filled or closed is dropped (R138): gather emptied, outstanding write withdrawn or orphaned, the slot
FREE and a write held for it woken, FAULTS counted, RX_DROPPED generated; the side passes to `after`. -/
def State.dropRecord (s : State) (n : LaneId) (r : FillRecord) (detail : BitVec 16) (after : RecvState) : State :=
  let x := (s.lane n).rcv
  (((s.setRcv n { x with gather := [], mover := x.mover.endRecord, state := after }).freeSlot r.chan r.slot).countFault
    r.chan).chanNotice r.chan .rxDropped (BitVec.ofNat 8 r.slot) 0 detail

/-- A record waiting for a slot of channel c is dropped (R131, R137): the slot wait timer stops, FAULTS counts it, and
RX_DROPPED is generated with SLOT FFh. -/
def State.dropWaiting (s : State) (n : LaneId) (c : ChanId) (detail : BitVec 16) (after : RecvState) : State :=
  ((s.setRcv n { (s.lane n).rcv with slotWaitTimer := none, state := after }).countFault c).chanNotice
    c .rxDropped noSlot 0 detail

/-- The receive side takes an end mark in its present state (R137). -/
def State.takeMark (s : State) (n : LaneId) (m : EndMark) : State :=
  match (s.lane n).rcv.state with
  | .filling r => s.dropRecord n r m.detail .idle
  | .slotWait c ended => if ended then s else s.dropWaiting n c m.detail .idle
  | .discarding => s.setRcv n { (s.lane n).rcv with state := .idle }
  | .closing _ => s
  | .idle => s

/-! ### Routing and slot choice -/

/-- The slot the router finds: the first FREE one from the fill pointer, wrapping, after at most COUNT slots (R129). -/
def Channel.findFree (ch : Channel) : Option Nat :=
  ((List.range ch.count.toNat).map fun i => (ch.fillPtr + i) % ch.count.toNat).find? fun k =>
    (ch.slot k).state == .free

/-- The router picks slot k of channel c for lane n (R129): FREE to FILLING, the fill pointer past it, the side
R_FILLING with the gather word empty. -/
def State.pick (s : State) (n : LaneId) (c : ChanId) (k : Nat) : State :=
  let t := s.setSlot c k ⟨.filling, 0, 0⟩
  let u := t.setChan c { t.chan c with fillPtr := (k + 1) % (t.chan c).count.toNat }
  u.setRcv n { (u.lane n).rcv with state := .filling ⟨c, k, false⟩, gather := [], slotWaitTimer := none }

/-- The channel that a route code finds on a lane: RUNNING, IN, with this lane and route (R126). -/
def State.routed (s : State) (n : LaneId) (route : BitVec 4) : Option ChanId :=
  allChans.find? fun c =>
    (s.chan c).running && (s.chan c).dir == .inbound && (s.chan c).lane == n && (s.chan c).route == route

/-- A route byte is routed (R126, R127, R129, R130): to a picked slot, to R_SLOT_WAIT with its timer started, or as a
route miss, reported if MISS_NOTE is 1, to R_DISCARDING. -/
def State.routeRecord (s : State) (n : LaneId) (b : Byte) : State :=
  let l := s.lane n
  let code := b.extractLsb' 0 4
  match s.routed n code with
  | some c =>
    match (s.chan c).findFree with
    | some k => s.pick n c k
    | none => s.setRcv n { l.rcv with
        state := .slotWait c false, slotWaitTimer := startLaneTimer s.now l.slotWait }
  | none =>
    let t := s.setRcv n { l.rcv with state := .discarding }
    if l.missNote then t.generate .routeMiss (laneSource n) noSlot 0 (code.setWidth 16) else t

/-! ### Filling and closing -/

/-- A payload byte consumed in R_FILLING (R132, R134): gathered and counted while the slot has room, the write of a full
word presented; dropped with truncated set when the slot is full. -/
def State.storeByte (s : State) (n : LaneId) (r : FillRecord) (b : Byte) : State :=
  let x := (s.lane n).rcv
  let sl := s.slot r.chan r.slot
  if sl.len < (s.chan r.chan).capacity then
    (s.setSlot r.chan r.slot { sl with len := sl.len + 1 }).setRcv n { x with
      gather := x.gather ++ [b]
      mover := if x.gather.length + 1 = 4 then .waiting else x.mover }
  else s.setRcv n { x with state := .filling { r with truncated := true } }

/-- The side's next step of a close, taken when the mover is NONE: it presents the write of the partial word, or of the
header when nothing is gathered (R135). -/
def RecvSide.closeStep (x : RecvSide) : RecvSide :=
  match x.state with
  | .closing _ => if x.mover = .none then { x with mover := .waiting } else x
  | _ => x

/-- The consumed entry carried last (R125): a filling record closes, a waiting one has ended, a discard ends. -/
def RecvSide.endRecord (x : RecvSide) : RecvSide :=
  match x.state with
  | .filling r => { x with state := .closing r }.closeStep
  | .slotWait c _ => { x with state := .slotWait c true }
  | .discarding => { x with state := .idle }
  | .closing _ => x
  | .idle => x

/-! ### Consumption -/

/-- The byte timer when ROOM is asserted again after a full buffer (R96): started if the engine is within a record or the
T_IN turn has had no put. -/
def Lane.roomTimer (l : Lane) (now : Nat) : Option Nat :=
  if l.takesPuts && (l.rcv.putState != .gap || (l.turn.turn == .inn && !l.turn.putSeen)) then
    startLaneTimer now l.byteLimit
  else l.rcv.byteTimer

/-- The head entry leaves the buffer, and the byte timer starts afresh if that asserts ROOM again (R96, R125). -/
def State.popRx (s : State) (n : LaneId) (rest : List RxEntry) : State :=
  let l := s.lane n
  s.setRcv n { l.rcv with
    rx := rest
    byteTimer := if l.rcv.rx.length = 16 then l.roomTimer s.now else l.rcv.byteTimer }

/-- A consumed entry: its byte by the side's state, then its last flag, then its end mark (R125). -/
def State.consumeEntry (s : State) (n : LaneId) (e : RxEntry) : State :=
  let t := match (s.lane n).rcv.state with
    | .idle => s.routeRecord n e.byte
    | .filling r => s.storeByte n r e.byte
    | _ => s
  let u := if e.last then t.setRcv n (t.lane n).rcv.endRecord else t
  match e.mark with
  | some m => u.takeMark n m
  | none => u

/-- The side consumes the head entry in this state (R125): in R_IDLE and R_DISCARDING always, in R_FILLING with the
mover NONE. -/
def RecvSide.consumes (x : RecvSide) : Bool :=
  match x.state with
  | .idle => true
  | .discarding => true
  | .filling _ => x.mover == .none
  | _ => false

/-- The side consumes head entries one after another, at most `fuel` of them. -/
def State.consume (fuel : Nat) (s : State) (n : LaneId) : State :=
  match fuel with
  | 0 => s
  | f + 1 =>
    match (s.lane n).rcv.rx with
    | [] => s
    | e :: rest => if (s.lane n).rcv.consumes then ((s.popRx n rest).consumeEntry n e).consume f n else s

/-- The side consumes all it can at this event (R125): each entry once. -/
def State.drain (s : State) (n : LaneId) : State := s.consume (s.lane n).rcv.rx.length n

/-- The mover has become NONE: a close takes its next step, other states consume (R133). -/
def State.resumeRecv (s : State) (n : LaneId) : State :=
  (s.setRcv n (s.lane n).rcv.closeStep).drain n

/-! ### The receive mover -/

/-- The header write completes without MERR (R136): the slot is READY with the number its header carries, the sequence
counter and DONE advance, a write held for the slot is woken, RX_READY is generated, and the side is R_IDLE. -/
def State.recordReady (s : State) (n : LaneId) (r : FillRecord) : State :=
  let sl := s.slot r.chan r.slot
  let q := (s.chan r.chan).seqCtr
  let t := (s.setRcv n { (s.lane n).rcv with state := .idle, mover := .none }).setSlot r.chan r.slot ⟨.ready, sl.len, q⟩
  let u := (t.setChan r.chan { t.chan r.chan with seqCtr := q + 1 }).countDone r.chan
  (u.wakeSlot r.chan r.slot).chanNotice r.chan .rxReady (BitVec.ofNat 8 r.slot) q (readyDetail sl.len r.truncated)

/-- A write of the record in progress completes without MERR (R133, R136). -/
def State.recvWriteDone (s : State) (n : LaneId) : State :=
  let x := (s.lane n).rcv
  match x.state with
  | .closing r =>
    if x.gather.isEmpty then s.recordReady n r else s.setRcv n { x with gather := [], mover := .none }
  | _ => s.setRcv n { x with gather := [], mover := .none }

/-- A write of the record in progress completes with MERR (R139): the record is dropped with MEMORY_ERROR (4); the rest of
it is discarded if it has not ended. -/
def State.recvWriteError (s : State) (n : LaneId) : State :=
  let t := s.setRcv n { (s.lane n).rcv with gather := [], mover := .none }
  match (s.lane n).rcv.state with
  | .filling r => t.dropRecord n r 4 .discarding
  | .closing r => t.dropRecord n r 4 .idle
  | _ => t

/-- RECEIVE_MOVER_WRITE_COMPLETION (R133, R136, R139): the memory ends the write in progress of a receive mover. An
orphaned write's MERR is dropped. The side then goes on. With no such write on the port, nothing happens. -/
def execReceiveMoverWriteCompletion (merr : Bool) (s : State) : Host.Outcome State Fault Refusal :=
  .next (match s.arb.port with
    | some ⟨.recv n, _⟩ =>
      let t := s.freePort
      match (s.lane n).rcv.mover with
      | .busy => (if merr then t.recvWriteError n else t.recvWriteDone n).resumeRecv n
      | .orphaned => (t.setRcv n { (s.lane n).rcv with mover := .none }).resumeRecv n
      | _ => t
    | _ => s)

/-! ### Slot wait -/

/-- A slot of channel c has been released: if its lane waits for a slot of c, the search is made and a slot picked, and the
side fills, or closes if the record has ended (R131). -/
def State.slotReleased (s : State) (c : ChanId) : State :=
  let n := (s.chan c).lane
  match (s.lane n).rcv.state, (s.chan c).findFree with
  | .slotWait c' ended, some k =>
    if c' = c then
      let t := s.pick n c k
      (if ended then t.setRcv n (t.lane n).rcv.endRecord else t).drain n
    else s
  | _, _ => s

/-- SLOT_WAIT_EXPIRY (R131): the slot wait timer of lane n has run out; the waiting record is dropped with NO_SLOT (5) and
the rest of it discarded if it has not ended. With no timer due on the lane, nothing happens. -/
def execSlotWaitExpiry (n : LaneId) (s : State) : Host.Outcome State Fault Refusal :=
  .next (match (s.lane n).rcv.state with
    | .slotWait c ended =>
      if timerDue s.now (s.lane n).rcv.slotWaitTimer then
        s.noting ((s.dropWaiting n c 5 (if ended then .idle else .discarding)).drain n)
      else s
    | _ => s)

end Sys2Proof.Machine
end

