-- ==== Sys2Proof/Machine/Lanes.lean ====
section
/-! DEFINITION. The line protocol of chapter 5 where both directions of a lane meet: the turn arbiter, takes and completions,
the end of an abort strobe, puts, overruns, engine aborts, the byte timer, WANT, and the append to a send queue. -/

namespace Sys2Proof.Machine

/-! ### The duplex turn (R100 to R102) -/

/-- T_IN is granted (R102): with ROOM asserted the byte timer starts. -/
def State.grantIn (s : State) (n : LaneId) : State :=
  let l := s.lane n
  s.setLane n { l with
    turn := { l.turn with turn := .inn, putSeen := false }
    rcv := { l.rcv with
      byteTimer := if l.rcv.rx.length < 16 then startLaneTimer s.now l.byteLimit else l.rcv.byteTimer } }

/-- T_OUT is granted, and the head entry starts at the same moment (R101). -/
def State.grantOut (s : State) (n : LaneId) : State :=
  (s.setTurn n { (s.lane n).turn with turn := .out }).startHead n

/-- The turn arbiter decides, if lane n is DUPLEX with the turn T_IDLE (R100). -/
def State.decideTurn (s : State) (n : LaneId) : State :=
  let l := s.lane n
  if l.mode = .duplex ∧ l.turn.turn = .idle then
    match l.turn.want, l.snd.queue.isEmpty with
    | false, true => s
    | true, true => s.grantIn n
    | false, false => s.grantOut n
    | true, false => if l.turn.last = .outbound then s.grantIn n else s.grantOut n
  else s

/-- A turn of direction d ends (R100 to R102): the last direction becomes d, the turn T_IDLE; an inbound turn's end stops
the byte timer, and a MARK pulse in progress is seen no more. Then the arbiter decides. -/
def State.endTurn (s : State) (n : LaneId) (d : Direction) : State :=
  let l := s.lane n
  let rcv := match d with
    | .inbound => { l.rcv with byteTimer := none, markPulse := none }
    | .outbound => l.rcv
  (s.setLane n { l with turn := { l.turn with turn := .idle, last := d }, rcv := rcv }).decideTurn n

/-- The send side has become able to start (R109): a SEND lane starts its head entry, a DUPLEX lane's outbound turn
ends. -/
def State.sendSideFree (s : State) (n : LaneId) : State :=
  if (s.lane n).mode = .duplex then s.endTurn n .outbound else s.startHead n

/-- An entry joins the tail of lane n's send queue (R107): an idle SEND side starts it, a DUPLEX arbiter decides if the
queue was empty. -/
def State.appendEntry (s : State) (n : LaneId) (e : QueueEntry) : State :=
  let l := s.lane n
  let t := s.setSnd n { l.snd with queue := l.snd.queue ++ [e] }
  match l.mode with
  | .send => t.startHead n
  | .duplex => if l.snd.queue.isEmpty then t.decideTurn n else t
  | _ => t

/-! ### Takes (R92, R117) -/

/-- The record is complete (R117): the slot FREE and a write held for it woken, DONE counted, TX_DONE generated with the
number and length the slot held, the side S_IDLE; then the next entry starts or the T_OUT turn ends. -/
def State.recordSent (s : State) (n : LaneId) (r : SendRecord) : State :=
  let q := (s.slot r.chan r.slot).seq
  let t := s.setSnd n { (s.lane n).snd with cur := none, takeTimer := none }
  let u := (t.freeSlot r.chan r.slot).countDone r.chan
  (u.chanNotice r.chan .txDone (BitVec.ofNat 8 r.slot) q (BitVec.ofNat 16 r.len)).sendSideFree n

/-- The byte on offer is taken (R92). -/
def State.takeByte (s : State) (n : LaneId) (r : SendRecord) : State :=
  if r.offered = r.len then s.recordSent n r
  else s.setSnd n ((s.lane n).snd.offerNext (startLaneTimer s.now (s.lane n).takeLimit) r)

/-- TAKE (R92): the engine releases TAKE. If the pulse met an offer that has stood since, the byte is taken; any other
pulse is ignored. -/
def execTake (n : LaneId) (s : State) : Host.Outcome State Fault Refusal :=
  .next (
    let x := (s.lane n).snd
    let t := s.setSnd n { x with takePulse := none }
    match x.takePulse, x.cur with
    | some true, some r => if r.offering then s.noting (t.takeByte n r) else t
    | _, _ => t)

/-- ABORT_STROBE_END (R94): the abort strobe of lane n has lasted its 1 µs; a waiting entry starts, or the T_OUT turn ends.
With no strobe due on the lane, nothing happens. -/
def execAbortStrobeEnd (n : LaneId) (s : State) : Host.Outcome State Fault Refusal :=
  .next (if timerDue s.now (s.lane n).snd.strobe then
    s.noting ((s.setSnd n { (s.lane n).snd with strobe := none }).sendSideFree n)
  else s)

/-! ### Puts (R96, R97) -/

/-- An end mark is attached to the tail entry of a list (R95). -/
def attachMark (m : EndMark) : List RxEntry → List RxEntry
  | [] => []
  | [e] => [{ e with mark := some m }]
  | e :: rest => e :: attachMark m rest

/-- The tail entry carries an end mark. -/
def tailMarked (l : List RxEntry) : Bool :=
  match l.getLast? with
  | some e => e.mark.isSome
  | none => false

/-- A fault of the record being put is recorded (R95): its mark goes on the tail entry, or to the receive side at once if
the buffer is empty. -/
def State.recordMark (s : State) (n : LaneId) (m : EndMark) : State :=
  let x := (s.lane n).rcv
  if x.rx.isEmpty then s.takeMark n m else s.setRcv n { x with rx := attachMark m x.rx }

/-- The put state after a put or an overrun: P_GAP with MARK, else `within` (R96, R97). -/
def PutState.afterPut (within : PutState) (mark : Bool) : PutState := if mark then .gap else within

/-- The byte timer after a put that leaves the buffer with `fill` entries (R96). -/
def putTimer (timer : Option Nat) (fill : Nat) (after : PutState) : Option Nat :=
  if fill < 16 then (if after = .gap then none else timer) else none

/-- A put taken while ROOM is asserted (R96): the byte joins the buffer, or is skipped in P_SKIP, and the side consumes
what it can. -/
def State.acceptPut (s : State) (n : LaneId) (b : Byte) (mark : Bool) : State :=
  let l := s.lane n
  let x := l.rcv
  let after := match x.putState with
    | .skip => PutState.skip.afterPut mark
    | _ => PutState.record.afterPut mark
  let rx := match x.putState with
    | .skip => x.rx
    | _ => x.rx ++ [⟨b, mark, none⟩]
  (s.setRcv n { x with
    rx := rx
    putState := after
    byteTimer := putTimer (startLaneTimer s.now l.byteLimit) rx.length after }).drain n

/-- A put taken while ROOM is released by a full buffer (R97): the byte is lost; within a record OVERRUN is recorded, and
the rest of the record is skipped. -/
def State.overrun (s : State) (n : LaneId) (mark : Bool) : State :=
  let x := (s.lane n).rcv
  let t := match x.putState with
    | .record => s.recordMark n .overrun
    | _ => s
  t.setRcv n { (t.lane n).rcv with putState := PutState.skip.afterPut mark }

/-- PUT (R96, R97): the engine asserts PUT. The byte and MARK are sampled where the lane takes puts, and a put with MARK
ends a T_IN turn (R102). Elsewhere the pulse is ignored. -/
def execPut (n : LaneId) (byte : Byte) (mark : Bool) (s : State) : Host.Outcome State Fault Refusal :=
  .next (
    let l := s.lane n
    if l.takesPuts then
      let t := s.setLane n { l with
        turn := { l.turn with putSeen := true }
        rcv := { l.rcv with markPulse := if mark then some true else none } }
      let u := if l.rcv.rx.length < 16 then t.acceptPut n byte mark else t.overrun n mark
      s.noting (if mark && l.mode == .duplex then u.endTurn n .inbound else u)
    else s)

/-! ### Engine aborts, the byte timer and WANT -/

/-- MARK_ASSERTION (R98): a MARK pulse begins, where the lane takes puts; elsewhere it is not seen. With PUT asserted at that
moment the pulse is no abort. -/
def execMarkAssertion (n : MarkStart) (s : State) : Host.Outcome State Fault Refusal :=
  .next (if (s.lane n.lane).takesPuts then
    s.setRcv n.lane { (s.lane n.lane).rcv with markPulse := some n.put }
  else s)

/-- The engine aborts (R98): by the put state, ABORT is recorded, or not, and the put state becomes P_GAP with the byte
timer stopped. -/
def State.engineAborts (s : State) (n : LaneId) : State :=
  let x := (s.lane n).rcv
  match x.putState with
  | .record => (s.setRcv n { x with putState := .gap, byteTimer := none }).recordMark n .abort
  | .skip => s.setRcv n { x with putState := .gap, byteTimer := none }
  | .gap => if tailMarked x.rx then s else s.recordMark n .abort

/-- ENGINE_ABORT (R98): the engine releases MARK. A pulse during which PUT was not asserted is an engine abort, which
ends a T_IN turn; one that enclosed a PUT has flagged that byte, one that began while PUT was asserted is no abort either, and
one that was not seen to begin is ignored. -/
def execEngineAbort (n : LaneId) (s : State) : Host.Outcome State Fault Refusal :=
  .next (
    let l := s.lane n
    let t := s.setRcv n { l.rcv with markPulse := none }
    if l.takesPuts && l.rcv.markPulse == some false then
      s.noting (if l.mode = .duplex then (t.engineAborts n).endTurn n .inbound else t.engineAborts n)
    else t)

/-- The byte timer expires (R99): by the put state, TIMEOUT is recorded, or not, and the put state becomes P_GAP. -/
def State.byteTimedOut (s : State) (n : LaneId) : State :=
  let x := (s.lane n).rcv
  let t := s.setRcv n { x with putState := .gap, byteTimer := none }
  match x.putState with
  | .record => t.recordMark n .timeout
  | _ => t

/-- BYTE_TIMER_EXPIRY (R99): the byte timer of lane n has run out; on a DUPLEX lane that ends the T_IN turn. With no timer
due on the lane, nothing happens. -/
def execByteTimerExpiry (n : LaneId) (s : State) : Host.Outcome State Fault Refusal :=
  .next (if timerDue s.now (s.lane n).rcv.byteTimer then
    let t := s.byteTimedOut n
    s.noting (if (s.lane n).mode = .duplex ∧ (s.lane n).turn.turn = .inn then t.endTurn n .inbound else t)
  else s)

/-- WANT_RISE (R100): WANT of DUPLEX lane n rises, and the turn arbiter decides if the turn is T_IDLE. On another lane the
line is not WANT. -/
def execWantRise (n : LaneId) (s : State) : Host.Outcome State Fault Refusal :=
  .next (if (s.lane n).mode = .duplex then
    s.noting ((s.setTurn n { (s.lane n).turn with want := true }).decideTurn n)
  else s)

/-- WANT_FALL (R102): WANT of DUPLEX lane n falls; before the first put of a T_IN turn that ends the turn. -/
def execWantFall (n : LaneId) (s : State) : Host.Outcome State Fault Refusal :=
  .next (if (s.lane n).mode = .duplex then
    let t := s.setTurn n { (s.lane n).turn with want := false }
    if (s.lane n).turn.turn = .inn ∧ (s.lane n).turn.putSeen = false then s.noting (t.endTurn n .inbound) else t
  else s)

end Sys2Proof.Machine
end

