-- ==== Sys2Proof/Machine/Channels.lean ====
section
/-! DEFINITION. Channels (chapter 3): run validation, acceptance and refusal, the stop, and the writes of a channel's setup
words as the shadow takes them. -/

namespace Sys2Proof.Machine

/-! ### Run validation (R44, R45) -/

/-- Checks 3 to 5 pass on a channel's own description (R44): a valid geometry, an aligned base, and an array inside the
address space. The three conditions in the order of the checks. -/
def Channel.geometryValid (ch : Channel) : Bool :=
  decide (ch.sizeCode.toNat ≤ 8 ∧ 1 ≤ ch.count.toNat ∧ ch.count.toNat ≤ 64)

/-- BASE is a multiple of SIZE (check 4). -/
def Channel.aligned (ch : Channel) : Bool := decide (ch.base.toNat % ch.size = 0)

/-- The array's last byte is at most FFFFFFh (check 5). -/
def Channel.inRange (ch : Channel) : Bool := decide (ch.extent.stop ≤ 0x1000000)

/-- The lane's mode carries the channel's direction (check 9). -/
def modeCarries (m : LaneMode) (d : Direction) : Bool :=
  m == .duplex || (match d with
    | .outbound => m == .send
    | .inbound => m == .receive)

/-- Some RUNNING channel other than c satisfies p (checks 8 and 10). -/
def State.anotherRunning (s : State) (c : ChanId) (p : Channel → Bool) : Bool :=
  allChans.any fun d => d != c && (s.chan d).running && p (s.chan d)

/-- Run validation of channel c: the first check that fails, in the order of R44, or none. -/
def State.runCheck (s : State) (c : ChanId) : Option RunReason :=
  let ch := s.chan c
  if !s.dev.active then some .inactive
  else if ch.guard = 3 then some .guardCode
  else if !ch.geometryValid then some .geometry
  else if !ch.aligned then some .align
  else if !ch.inRange then some .range
  else if ch.extent.overlaps s.setupExtent then some .overlapSetup
  else if s.dev.ringSize ≠ 0 ∧ ch.extent.overlaps (ringExtent s.dev.ringBase s.dev.ringSize) = true then
    some .overlapRing
  else if s.anotherRunning c fun d => ch.extent.overlaps d.extent then some .overlapChannel
  else if !modeCarries (s.lane ch.lane).mode ch.dir then some .laneMode
  else if s.anotherRunning c fun d => d.lane == ch.lane && d.dir == ch.dir && d.route == ch.route then
    some .routeTaken
  else if ch.guard = 2 ∧ ch.stallLimit = 0 then some .stallLimit
  else none

/-- A channel record at run acceptance (R46). -/
def Channel.accept (ch : Channel) : Channel :=
  { ch with
    state := .running
    seqCtr := 0
    fillPtr := 0
    done := 0
    faults := 0
    slots := List.replicate ch.count.toNat SlotRec.free }

/-- A run request of channel c, validated against the shadow as it stands (R44): accepted (R46) or refused with
SETUP_REJECTED (R47). -/
def State.runRequest (s : State) (c : ChanId) : State :=
  match s.runCheck c with
  | none => s.setChan c (s.chan c).accept
  | some why =>
    (s.setChan c { s.chan c with state := .rejected why }).setupRejected (chanSource c) (why.code.setWidth 16)

/-! ### Stopping channels (R48 to R51) -/

/-- A channel record at its stop (R48): OFF, no slot tracked, everything else kept. -/
def Channel.stop (ch : Channel) : Channel := { ch with state := .off, slots := [] }

/-- A send side at the stop of the channels `sel` (R49, R121): their entries leave the queue, and a record of theirs is
abandoned with the abort strobe. -/
def SendSide.stopFor (x : SendSide) (sel : ChanId → Bool) (now : Nat) : SendSide :=
  let y := { x with queue := x.queue.filter fun e => !sel e.chan }
  match x.cur with
  | some r => if sel r.chan then y.abandon now else y
  | none => y

/-- A receive side at the stop of the channels `sel` (R50, R142), before it consumes on: a record of theirs is given up. -/
def RecvSide.stopFor (x : RecvSide) (sel : ChanId → Bool) : RecvSide :=
  match x.state with
  | .filling r =>
    if sel r.chan then { x with gather := [], mover := x.mover.endRecord, state := .discarding } else x
  | .closing r =>
    if sel r.chan then { x with gather := [], mover := x.mover.endRecord, state := .idle } else x
  | .slotWait c ended =>
    if sel c then { x with slotWaitTimer := none, state := if ended then .idle else .discarding } else x
  | _ => x

/-- Lane n takes the effects of the stop (R49, R50): its send side, its receive side, and what the latter then consumes. -/
def State.stopLane (sel : ChanId → Bool) (s : State) (n : LaneId) : State :=
  let l := s.lane n
  (s.setLane n { l with snd := l.snd.stopFor sel s.now, rcv := l.rcv.stopFor sel }).drain n

/-- The channels `sel` that are RUNNING become OFF, all at this one grant (R48). -/
def State.stopRecords (sel : ChanId → Bool) (s : State) (c : ChanId) : State :=
  if sel c then s.setChan c (s.chan c).stop else s

/-- The RUNNING channels among `sel` are stopped at this one grant (R27, R48 to R51): first every channel record, then
every lane in order (log entry 12). -/
def State.stopChannels (s : State) (sel : ChanId → Bool) : State :=
  let run := fun c => sel c && (s.chan c).running
  allLanes.foldl (State.stopLane run) (allChans.foldl (State.stopRecords run) s)

/-! ### The control word (R39 to R41) -/

/-- A GUARD value that a RUNNING channel takes (R41): DISCARD, REJECT, or STALL with STALL_LIMIT above 0. -/
def Channel.guardTaken (ch : Channel) (g : BitVec 2) : Bool :=
  g == 0 || g == 1 || (g == 2 && ch.stallLimit != 0)

/-- The control word takes the written DIRECTION, LANE, ROUTE and GUARD of a channel that is not RUNNING (R39, R40). -/
def Channel.bind (ch : Channel) (be : Enables) (data : Word) : Channel :=
  let w := mergeBytes be ch.control data
  { ch with
    dir := .ofCode (field w 1 1)
    lane := (field w 4 2).toFin
    route := field w 8 4
    guard := field w 16 2 }

/-- A written GUARD (byte 2) is taken whatever its value (R39, R41). -/
def Channel.writeGuard (ch : Channel) (be : Enables) (data : Word) : Channel :=
  if be.getLsbD 2 then { ch with guard := field data 16 2 } else ch

/-- The RUN request a control write makes: none when RUN's byte is not written (R39 to R41). -/
def runRequestOf (be : Enables) (data : Word) : Option Bool :=
  if be.getLsbD 0 then some (data.getLsbD 0) else none

/-- A write of channel c's control word (R39 to R41). -/
def State.takeChanControl (s : State) (c : ChanId) (be : Enables) (data : Word) : State :=
  let ch := s.chan c
  if ch.running then
    if runRequestOf be data = some false then
      let t := s.stopChannels fun d => d == c
      t.setChan c ((t.chan c).writeGuard be data)
    else if be.getLsbD 2 && ch.guardTaken (field data 16 2) then
      s.setChan c { ch with guard := field data 16 2 }
    else s
  else
    let t := s.setChan c (ch.bind be data)
    match runRequestOf be data with
    | some true => t.runRequest c
    | some false => t.setChan c { t.chan c with state := .off }
    | none => t

/-! ### The other channel words (R42, R43, R52) -/

/-- A write of the array base word (R42): ignored while RUNNING. -/
def State.takeChanBase (s : State) (c : ChanId) (be : Enables) (data : Word) : State :=
  let ch := s.chan c
  if ch.running then s
  else s.setChan c { ch with base := field (mergeBytes be (place 0 ch.base) data) 0 24 }

/-- A write of the geometry word (R42): ignored while RUNNING. -/
def State.takeChanGeometry (s : State) (c : ChanId) (be : Enables) (data : Word) : State :=
  let ch := s.chan c
  let w := mergeBytes be ch.geometry data
  if ch.running then s else s.setChan c { ch with sizeCode := field w 0 4, count := field w 8 7 }

/-- A write of the stall limit word (R43). -/
def State.takeChanStall (s : State) (c : ChanId) (be : Enables) (data : Word) : State :=
  let ch := s.chan c
  s.setChan c { ch with stallLimit := field (mergeBytes be (place 0 ch.stallLimit) data) 0 8 }

/-- The enables that a set or clear word names: those presented as 1 in a written byte (R52). -/
def namedEnables (be : Enables) (data : Word) : NotifyEnables := field (data &&& enableMask be) 0 6

/-- A write of the enable set word (R52). -/
def State.takeEnableSet (s : State) (c : ChanId) (be : Enables) (data : Word) : State :=
  s.setChan c { s.chan c with enables := (s.chan c).enables ||| namedEnables be data }

/-- A write of the enable clear word (R52). -/
def State.takeEnableClear (s : State) (c : ChanId) (be : Enables) (data : Word) : State :=
  s.setChan c { s.chan c with enables := (s.chan c).enables &&& ~~~(namedEnables be data) }

end Sys2Proof.Machine
end

