-- ==== Sys2Proof/Machine/Slots.lean ====
section
/-! DEFINITION. Slot ownership and the guard (chapter 4): the meaning of a header write, commits, withdraws and releases,
guarded writes under the three policies, the held write and its stall timer, and the header read overlay. -/

namespace Sys2Proof.Machine

/-! ### The host port's two ways on (R6, R9) -/

/-- The host access r takes its memory cycle (R6): the port is BUSY with it and the host port in HP_ACCESS. -/
def State.memoryCycle (s : State) (r : HostRecord) (cyc : HostCycle) : State :=
  (s.withArb { s.arb with port := some ⟨.host, r.access⟩ }).withHost { s.host with port := .access r cyc }

/-- The host access r ends with an answer (R1, R12): HWAIT released, HERR and read data kept for the host. -/
def State.endAccess (s : State) (r : HostRecord) (herr : Bool) (data : Option Word) : State :=
  s.withHost { s.host with port := .idle, answer := some ⟨!r.write, r.write, herr, data⟩ }

/-- No write is held and the stall timer is stopped (R82). -/
def State.clearGuard (s : State) : State := s.withGuard ⟨none, none⟩

/-- A slot write is performed (R9): what the guard held of it ends, and its memory cycle starts. -/
def State.performWrite (s : State) (r : HostRecord) (herr : Bool) : State :=
  s.clearGuard.memoryCycle r ⟨false, herr, none, none⟩

/-! ### The meaning of a header write (R65) -/

/-- The meanings of the table of R65. -/
inductive HeaderMeaning where
  | plain
  | commit (len : Nat)
  | refusedLength
  | failedFree
  | recommit (len : Nat)
  | withdraw
  | release
  | guarded
  deriving DecidableEq, Repr

/-- The meaning of a header write, from the direction, the slot's state, the LENGTH read (none for a partial header write)
and the capacity (R65). A state that the direction's slots never have is guarded (log entry 18). -/
def headerMeaning (dir : Direction) (state : SlotState) (len : Option Nat) (capacity : Nat) : HeaderMeaning :=
  match dir, state, len with
  | .outbound, .free, none => .plain
  | .outbound, .free, some l => if l = 0 then .plain else if l ≤ capacity then .commit l else .refusedLength
  | .outbound, .failed, none => .plain
  | .outbound, .failed, some l => if l = 0 then .failedFree else if l ≤ capacity then .recommit l else .refusedLength
  | .outbound, .committed, some 0 => .withdraw
  | .inbound, .free, _ => .plain
  | .inbound, .ready, _ => .release
  | _, _, _ => .guarded

/-- A payload write is guarded to a slot that is COMMITTED, SENDING or FILLING and plain otherwise (R71). -/
def payloadGuarded (state : SlotState) : Bool := state == .committed || state == .sending || state == .filling

/-! ### What the guard takes from a header write -/

/-- A commit or recommit is taken (R66, R69): the slot COMMITTED with its length and the next sequence number, and its
entry appended to the lane's send queue. -/
def State.takeCommit (s : State) (c : ChanId) (k len : Nat) : State :=
  let ch := s.chan c
  let t := s.setSlot c k ⟨.committed, len, ch.seqCtr⟩
  (t.setChan c { t.chan c with seqCtr := ch.seqCtr + 1 }).appendEntry ch.lane ⟨c, k⟩

/-- A withdraw is taken (R68): the slot's entry leaves the queue and the slot is FREE. -/
def State.takeWithdraw (s : State) (c : ChanId) (k : Nat) : State :=
  let n := (s.chan c).lane
  let x := (s.lane n).snd
  (s.setSnd n { x with queue := x.queue.filter fun e => !(e.chan == c && e.slot == k) }).setSlot c k SlotRec.free

/-- A FAILED slot is given up (R69). -/
def State.takeFailedFree (s : State) (c : ChanId) (k : Nat) : State := s.setSlot c k SlotRec.free

/-- A release is taken (R70): the slot is FREE, and a record waiting for one of the channel's slots may pick it (R131). -/
def State.takeRelease (s : State) (c : ChanId) (k : Nat) : State := (s.setSlot c k SlotRec.free).slotReleased c

/-- A refused commit is reported (R67, R77, R81): FAULTS counts it and COMMIT_REFUSED is generated. -/
def State.commitRefused (s : State) (c : ChanId) (k : Nat) (detail : BitVec 16) : State :=
  (s.countFault c).chanNotice c .commitRefused (BitVec.ofNat 8 k) 0 detail

/-! ### Guarded writes (R71 to R74) -/

/-- The SEQ of a GUARD_DISCARD: the slot's sequence number when COMMITTED, SENDING or FAILED, else 0 (R80). -/
def SlotRec.guardSeq (r : SlotRec) : Byte :=
  match r.state with
  | .committed => r.seq
  | .sending => r.seq
  | .failed => r.seq
  | _ => 0

/-- A guarded write is reported with its cause (R72, R73, R76, R80): FAULTS counts it and GUARD_DISCARD is generated. -/
def State.guardDiscard (s : State) (c : ChanId) (k word : Nat) (cause : BitVec 2) : State :=
  (s.countFault c).chanNotice c .guardDiscard (BitVec.ofNat 8 k) (s.slot c k).guardSeq (guardDetail word cause)

/-- The stall timer ends the held write h of access r (R76): reported by the reason it last held, ended with HERR and
without a memory cycle. -/
def State.endStalled (s : State) (r : HostRecord) (h : HeldWrite) : State :=
  let t := match h.reason with
    | .slot => s.guardDiscard h.chan h.slot h.word 3
    | .queue => s.commitRefused h.chan h.slot 2
  t.clearGuard.endAccess r true none

/-- A write is held (R74): a first holding starts the stall timer with STALL_LIMIT × 4 µs, and ends the write at once when
that is 0 (R43); a later holding keeps the timer. -/
def State.holdWrite (s : State) (r : HostRecord) (h : HeldWrite) : State :=
  let limit := (s.chan h.chan).stallLimit
  match s.guard.held with
  | none =>
    if limit = 0 then s.endStalled r h
    else (s.withGuard ⟨some h, some (s.now + limit.toNat * 4)⟩).withHost { s.host with port := .held r }
  | some _ => (s.withGuard { s.guard with held := some h }).withHost { s.host with port := .held r }

/-- A guarded write takes the outcome of its channel's policy (R72 to R74). GUARD 3 is never a RUNNING channel's (R41,
R44) and is treated as DISCARD (log entry 13). -/
def State.guardedWrite (s : State) (r : HostRecord) (c : ChanId) (k word : Nat) : State :=
  let g := (s.chan c).guard
  if g = 2 then s.holdWrite r ⟨c, k, word, .slot⟩
  else if g = 1 then (s.guardDiscard c k word 2).clearGuard.endAccess r true none
  else (s.guardDiscard c k word 1).clearGuard.endAccess r false none

/-- A commit or recommit at its grant: taken while the lane's queue has an entry free (R66), else refused or held by the
policy (R77). -/
def State.commitWrite (s : State) (r : HostRecord) (c : ChanId) (k len : Nat) : State :=
  let ch := s.chan c
  if (s.lane ch.lane).snd.queue.length < 16 then (s.takeCommit c k len).performWrite r false
  else if ch.guard = 2 then s.holdWrite r ⟨c, k, 0, .queue⟩
  else (s.commitRefused c k 2).performWrite r (ch.guard == 1)

/-- A SLOT_HEADER write at its grant, by its meaning (R65, R9). -/
def State.headerWrite (s : State) (r : HostRecord) (c : ChanId) (k : Nat) (m : HeaderMeaning) : State :=
  match m with
  | .plain => s.performWrite r false
  | .commit len => s.commitWrite r c k len
  | .refusedLength => (s.commitRefused c k 1).performWrite r ((s.chan c).guard == 1)
  | .failedFree => (s.takeFailedFree c k).performWrite r false
  | .recommit len => s.commitWrite r c k len
  | .withdraw => (s.takeWithdraw c k).performWrite r false
  | .release => (s.takeRelease c k).performWrite r false
  | .guarded => s.guardedWrite r c k 0

/-- The meaning of the recorded header write r to slot k of channel c, from the state at its grant (R64, R65). -/
def State.headerMeaningOf (s : State) (r : HostRecord) (c : ChanId) (k : Nat) : HeaderMeaning :=
  headerMeaning (s.chan c).dir (s.slot c k).state (headerLength r.be r.data) (s.chan c).capacity

/-- A SLOT_PAYLOAD write at its grant (R71). -/
def State.payloadWrite (s : State) (r : HostRecord) (c : ChanId) (k word : Nat) : State :=
  if payloadGuarded (s.slot c k).state then s.guardedWrite r c k word else s.performWrite r false

/-- The overlay's snapshot of a slot (R11, R79): its state, and its sequence number for an outbound slot in COMMITTED,
SENDING or FAILED. -/
def State.overlayOf (s : State) (c : ChanId) (k : Nat) : Overlay :=
  let r := s.slot c k
  ⟨r.state, if r.state = .committed ∨ r.state = .sending ∨ r.state = .failed then some r.seq else none⟩

/-! ### The stall timer -/

/-- STALL_TIMER_EXPIRY (R76): the stall timer has run out and ends the held or re-waiting write. With no timer due, nothing
happens. -/
def execStallTimerExpiry (s : State) : Host.Outcome State Fault Refusal :=
  .next (if timerDue s.now s.guard.stallTimer then
    match s.guard.held, s.host.port with
    | some h, .held r => s.noting (s.endStalled r h)
    | some h, .waiting r => s.noting (s.endStalled r h)
    | _, _ => s
  else s)

end Sys2Proof.Machine
end

