-- ==== Sys2Proof/Machine/Mirror.lean ====
section
/-! DEFINITION. Mirror lines (chapter 9): the latch, the masks and what a watch sample compares and reports, with the 1 µs
tick of the timer base. -/

namespace Sys2Proof.Machine

/-- Lane n takes the changes of a grant since `before` (R160): the lines that became inputs or became watched are not compared
at the next sample. A line that was an input already and stays one has not become one: a watched C0 or C2 with DIR 0 is
compared at the very next sample after a lending's start or end, where R87 and R162 say that it "becomes" an input and enters
from the sample after next; the model's choice (DESIGN CHOICE, unsafe, log entry 27). -/
def State.noteFresh (before : State) (s : State) (n : LaneId) : State :=
  let l := s.lane n
  let became := (s.inputs n &&& ~~~(before.inputs n)) ||| (l.watch &&& ~~~((before.lane n).watch))
  s.setLane n { l with mir := { l.mir with fresh := l.mir.fresh ||| became } }

/-- Every lane notes the lines that became inputs or watched since `before`, at one grant (R160, R162, log
entries 14 and 27). -/
def State.noteFreshAll (s before : State) : State := allLanes.foldl (State.noteFresh before) s

/-- A write of lane n's mirror word (R157): the latch takes the levels in the written bytes. -/
def State.takeLaneMirror (s : State) (n : LaneId) (be : Enables) (data : Word) : State :=
  let l := s.lane n
  s.setLane n { l with mir := { l.mir with latch := field (mergeBytes be (place 0 l.mir.latch) data) 0 11 } }

/-- The changed lines of lane n at a sample with these pins (R160): watched, inputs now and at the last sample, not fresh,
and at a level other than the sampled one. -/
def State.changedLines (s : State) (pins : Pins) (n : LaneId) : Lines :=
  let m := (s.lane n).mir
  (s.lane n).watch &&& s.inputs n &&& m.prevInput &&& ~~~m.fresh &&& (s.liveLines pins n ^^^ m.sampled)

/-- Lane n takes a watch sample (R160): the present levels become the sampled levels, and with changed lines and the
change-held flag 0 the flag is set and MIRROR_CHANGE generated. -/
def State.watchLane (pins : Pins) (s : State) (n : LaneId) : State :=
  let l := s.lane n
  let changed := s.changedLines pins n
  let t := s.setLane n { l with mir := { l.mir with
    sampled := s.liveLines pins n
    prevInput := s.inputs n
    fresh := 0
    changeHeld := l.mir.changeHeld || changed != 0 } }
  if changed != 0 && !l.mir.changeHeld then
    t.generate .mirrorChange (laneSource n) noSlot 0 (changed.setWidth 16)
  else t

/-- WATCH_SAMPLE (R160): one 1 µs tick of the timer base; every lane takes a watch sample, in
lane order (log entry 15). While RESETn is low, and in bypass, the lanes keep their reset values (R16, R18, R155). -/
def execWatchSample (pins : Pins) (s : State) : Host.Outcome State Fault Refusal :=
  .next (
    let t := { s with now := s.now + 1 }
    if s.resetn && !s.bypass then s.noting (allLanes.foldl (State.watchLane pins) t) else t)

end Sys2Proof.Machine
end

