-- ==== Sys2Proof/Machine/Notices.lean ====
section
/-! DEFINITION. The notice unit as its ring and its writer change (chapter 10): ring changes, the consumer index, LOST, and
the completion of the writer's words. The generation of notices stands in Machine/Ops.lean. -/

namespace Sys2Proof.Machine

/-- The ring a ring change would leave passes FFFFFFh, or shares a byte with the setup area or with a RUNNING channel's
array (R172, RING_PLACE). -/
def State.ringMisplaced (s : State) (e : Extent) : Bool :=
  decide (0x1000000 < e.stop) || e.overlaps s.setupExtent ||
    allChans.any fun c => (s.chan c).running && e.overlaps (s.chan c).extent

/-- The check of a ring change to a base and a size (R29, R172): the refusal's reason code, or none. Size 7 is refused
with RING_PLACE whatever the occupancy. -/
def State.ringCheck (s : State) (base : Addr) (size : BitVec 3) : Option (BitVec 16) :=
  if size = 7 then some 15
  else if s.nu.occupancy ≠ 0 then some 14
  else if size ≠ 0 ∧ s.ringMisplaced (ringExtent base size) = true then some 15
  else none

/-- A ring change to a base and a size is checked, and refused with SETUP_REJECTED or accepted (R172): both indices 0, the
pending list kept, the writer started again from word 0 where a ring is configured. -/
def State.ringChange (s : State) (base : Addr) (size : BitVec 3) : State :=
  match s.ringCheck base size with
  | some reason => s.setupRejected deviceSource reason
  | none =>
    ((s.withDev { s.dev with ringBase := base, ringSize := size }).withNu
      { s.nu with prod := 0, cons := 0, writer := .idle }).startWriter

/-- The base that a write of the ring base word presents: its low 3 bits read as 0 (R172). -/
def State.presentedBase (s : State) (be : Enables) (data : Word) : Addr :=
  field (mergeBytes be (place 0 s.dev.ringBase) data) 0 24 &&& 0xFFFFF8

/-- A write of the ring base word (R172): a base different from the shadow's is a ring change. -/
def State.takeRingBase (s : State) (be : Enables) (data : Word) : State :=
  let base := s.presentedBase be data
  if base = s.dev.ringBase then s else s.ringChange base s.dev.ringSize

/-- A write of the consumer index (R170): accepted when it does not raise occupancy, and the writer may start; any other
value is ignored. -/
def State.takeConsumer (s : State) (be : Enables) (data : Word) : State :=
  let c := field (mergeBytes be (place 0 s.nu.cons) data) 0 16
  if s.nu.prod - c ≤ s.nu.occupancy then (s.withNu { s.nu with cons := c }).startWriter else s

/-- A device status write names LOST: presented as 1 in a written byte (R31). -/
def clearsLost (be : Enables) (data : Word) : Bool := be.getLsbD 0 && data.getLsbD 1

/-- A write of the device status word (R31): LOST presented as 1 clears it, the other fields are ignored. -/
def State.takeDeviceStatus (s : State) (be : Enables) (data : Word) : State :=
  if clearsLost be data then s.withNu { s.nu with lost := false } else s

/-- A notice word write completes with MERR (R169): the head notice is removed, LOST is set, and the writer goes on. -/
def State.noticeFailed (s : State) : State :=
  (s.withNu { s.nu with list := s.nu.list.tail, lost := true, writer := .idle }).startWriter

/-- Word 1 of the head notice completes (R168): the notice leaves the pending list, the producer index advances, and the
writer goes on. -/
def State.noticeWritten (s : State) : State :=
  (s.withNu { s.nu with list := s.nu.list.tail, prod := s.nu.prod + 1, writer := .idle }).startWriter

/-- NOTICE_WORD_COMPLETION (R168, R169): the memory ends the notice writer's write in progress. With no such write on the
port, nothing happens. -/
def execNoticeWordCompletion (merr : Bool) (s : State) : Host.Outcome State Fault Refusal :=
  .next (match s.arb.port with
    | some ⟨.notice, _⟩ =>
      let t := s.freePort
      match s.nu.writer with
      | .word0Writing => if merr then t.noticeFailed else t.withNu { s.nu with writer := .word1Waiting }
      | .word1Writing => if merr then t.noticeFailed else t.noticeWritten
      | _ => t
    | _ => s)

end Sys2Proof.Machine
end

