-- ==== Sys2Proof/Machine/Setup.lean ====
section
/-! DEFINITION. The setup area (chapter 2) as the shadow takes its writes: device control with its steps, restart, the lane
mode and timer words, and the choice of the owner of a setup word. -/

namespace Sys2Proof.Machine

/-! ### Resets (R16, R32 to R35) -/

/-- Every block takes its reset state; the straps, RESETn, the timer base and the command queue stay (R32, R34). -/
def State.resetBlocks (s : State) : State :=
  { State.reset with
    pending := s.pending
    resetn := s.resetn
    sbase := s.sbase
    bypass := s.bypass
    now := s.now
    freeCount := s.freeCount }

/-- The sampled levels of lane n are taken from the pins (R155). -/
def State.sampleLane (pins : Pins) (s : State) (n : LaneId) : State :=
  let l := s.lane n
  s.setLane n { l with mir := { l.mir with sampled := s.liveLines pins n } }

/-- Every lane's sampled levels are taken from the pins, at the end of a reset (R155). -/
def State.sampleAll (s : State) (pins : Pins) : State := allLanes.foldl (State.sampleLane pins) s

/-- A restart (R32, R33): every block's reset state. The host keeps its strobes, and the access that carries the restart
goes on to its memory cycle (R17, R34). -/
def State.restartBlocks (s : State) (pins : Pins) : State :=
  (s.resetBlocks.withHost { s.host with answer := none }).sampleAll pins

/-! ### Device control (R25 to R29) -/

/-- A device control write carries RESTART: presented as 1 in a written byte (R25). -/
def carriesRestart (be : Enables) (data : Word) : Bool := be.getLsbD 0 && data.getLsbD 7

/-- The device control word as a write leaves its fields to be taken: the written bytes over the shadow's (R8). -/
def State.controlPresented (s : State) (be : Enables) (data : Word) : Word := mergeBytes be s.dev.control data

/-- Step 1 (R25 to R27): ACTIVE takes its written value; passing to 0 it stops every RUNNING channel. -/
def State.takeActive (s : State) (active : Bool) : State :=
  let t := s.withDev { s.dev with active := active }
  if s.dev.active && !active then t.stopChannels fun _ => true else t

/-- Step 2 (R28): IRQ_EN and PATIENCE take their written values. -/
def State.takeIrqPatience (s : State) (w : Word) : State :=
  s.withDev { s.dev with irqEn := w.getLsbD 1, patience := field w 16 4 }

/-- Step 3 (R29): a RING_SIZE different from the shadow's is a ring change. -/
def State.takeRingSize (s : State) (size : BitVec 3) : State :=
  if size = s.dev.ringSize then s else s.ringChange s.dev.ringBase size

/-- A write of the device control word (R25). -/
def State.takeControl (s : State) (pins : Pins) (be : Enables) (data : Word) : State :=
  if carriesRestart be data then s.restartBlocks pins
  else
    let w := s.controlPresented be data
    ((s.takeActive (w.getLsbD 0)).takeIrqPatience w).takeRingSize (field w 8 3)

/-! ### Lane mode and timer words (R88 to R90) -/

/-- The mode word of lane n as a write leaves it to be taken (R8, R88). -/
def State.modePresented (s : State) (n : LaneId) (be : Enables) (data : Word) : Word :=
  mergeBytes be (s.lane n).modeWord data

/-- The MODE a write of lane n's mode word presents (R88). -/
def State.writtenMode (s : State) (n : LaneId) (be : Enables) (data : Word) : LaneMode :=
  .ofCode (field (s.modePresented n be data) 0 2)

/-- The check of a mode change (R88): LANE_BOUND (12), LANE_PARTNER (13), or none. -/
def State.modeCheck (s : State) (n : LaneId) (m : LaneMode) : Option (BitVec 16) :=
  if allChans.any fun c => (s.chan c).running && (s.chan c).lane == n then some 12
  else if m = .duplex ∧ (oddLane n = true ∨ (s.lane (mate n)).mode ≠ .mirror) then some 13
  else if oddLane n = true ∧ m ≠ .mirror ∧ (s.lane (mate n)).mode = .duplex then some 13
  else none

/-- A lane takes MISS_NOTE, DIR and WATCH from a mode word. -/
def Lane.takeMasks (l : Lane) (w : Word) : Lane :=
  { l with missNote := w.getLsbD 2, dir := field w 8 11, watch := field w 19 11 }

/-- A lane at an accepted mode change (R89, R105, R124, R155): its two sides, turn, latch and flag reset; the timer word
kept. The lines sampled before stand as they are until the pins are sampled. -/
def Lane.changeMode (l : Lane) (m : LaneMode) (w : Word) : Lane :=
  { l.takeMasks w with
    mode := m
    snd := .reset
    rcv := .reset
    turn := .reset
    mir := { l.mir with latch := 0, changeHeld := false } }

/-- The level of WANT at a mode change into DUPLEX: the partner's C2 pin (R86, R87). -/
def wantLevel (pins : Pins) (n : LaneId) : Bool := (pins.lane (mate n)).level.getLsbD 10

/-- The lines that the switch of lane n has released since `before` are compared at the next sample, against the levels
sampled at the grant (R162; log entry 14 for its standing beside R160). -/
def State.compareReleased (s before : State) (n : LaneId) : State :=
  let l := s.lane n
  let released := s.inputs n &&& ~~~(before.inputs n)
  s.setLane n { l with mir := { l.mir with
    prevInput := l.mir.prevInput ||| released
    fresh := l.mir.fresh &&& ~~~released } }

/-- An accepted mode change of lane n (R89): the lane's new state, its sampled levels from the pins in the new mode, the
lines that became inputs or watched noted for every lane but those the switch released, and on a DUPLEX lane the turn
arbiter's decision (R100). -/
def State.acceptMode (s : State) (pins : Pins) (n : LaneId) (m : LaneMode) (w : Word) : State :=
  let t := s.setLane n ((s.lane n).changeMode m w)
  let u := ((t.sampleLane pins n).noteFreshAll s).compareReleased s n
  if m = .duplex then (u.setTurn n { (u.lane n).turn with want := wantLevel pins n }).decideTurn n else u

/-- A write of lane n's mode word (R88): the masks alone, or a mode change that is refused or accepted. -/
def State.takeLaneMode (s : State) (pins : Pins) (n : LaneId) (be : Enables) (data : Word) : State :=
  let w := s.modePresented n be data
  let m := s.writtenMode n be data
  if m = (s.lane n).mode then (s.setLane n ((s.lane n).takeMasks w)).noteFreshAll s
  else
    match s.modeCheck n m with
    | some reason => s.setupRejected (laneSource n) reason
    | none => s.acceptMode pins n m w

/-- A write of lane n's timer word (R90). -/
def State.takeLaneTimer (s : State) (n : LaneId) (be : Enables) (data : Word) : State :=
  let l := s.lane n
  let w := mergeBytes be l.timerWord data
  s.setLane n { l with byteLimit := field w 0 8, takeLimit := field w 8 8, slotWait := field w 16 8 }

/-! ### The owner of a setup word -/

/-- A SETUP write is taken by the owner of its word (R7, R20). -/
def State.takeSetup (s : State) (pins : Pins) (w : SetupWord) (be : Enables) (data : Word) : State :=
  match w with
  | .deviceControl => s.takeControl pins be data
  | .ringBase => s.takeRingBase be data
  | .consumerIndex => s.takeConsumer be data
  | .producerIndex => s
  | .deviceStatus => s.takeDeviceStatus be data
  | .laneMode n => s.takeLaneMode pins n be data
  | .laneTimer n => s.takeLaneTimer n be data
  | .laneMirror n => s.takeLaneMirror n be data
  | .laneStatus _ => s
  | .chanControl c => s.takeChanControl c be data
  | .chanBase c => s.takeChanBase c be data
  | .chanGeometry c => s.takeChanGeometry c be data
  | .chanStall c => s.takeChanStall c be data
  | .enableSet c => s.takeEnableSet c be data
  | .enableClear c => s.takeEnableClear c be data
  | .chanStatus _ => s
  | .chanCounts _ => s
  | .unused => s

end Sys2Proof.Machine
end

