-- ==== Sys2Proof/Machine/HostPort.lean ====
section
/-! DEFINITION. The pass-through path (chapter 1): classification, arrival, setup reads, the host grant, the completion,
early release, strobe release, and the two edges of RESETn. -/

namespace Sys2Proof.Machine

/-! ### Classification (R2) -/

/-- The RUNNING channel whose slot array holds an address (R2). -/
def State.owner (s : State) (a : Nat) : Option ChanId :=
  allChans.find? fun c => (s.chan c).running && (s.chan c).extent.contains a

/-- The class of an access by its address (R2). -/
def State.classify (s : State) (a : Nat) : AccessClass :=
  if s.bypass then .plain
  else if s.setupExtent.contains a then .setup (a - s.setupBase)
  else match s.owner a with
    | some c =>
      let ch := s.chan c
      let k := (a - ch.base.toNat) / ch.size
      let w := (a - ch.base.toNat - k * ch.size) / 4
      if w = 0 then .slotHeader c k else .slotPayload c k w
    | none => .plain

/-! ### Arrival (R1, R4, R15) -/

/-- The byte address on the host's lines: HA[23:2] times 4 (R1). -/
def busAddr (b : HostBus) : Addr := b.wordAddr ++ 0#2

/-- The record of an arrival (R1). -/
def State.recordOf (s : State) (b : HostBus) : HostRecord :=
  ⟨busAddr b, b.wr, b.be, b.data, s.classify (busAddr b).toNat⟩

/-- The side effect of a setup read: a mirror word's read clears that lane's change-held flag (R159). -/
def State.setupReadEffect (s : State) (w : SetupWord) : State :=
  match w with
  | .laneMirror n => s.setLane n { s.lane n with mir := { (s.lane n).mir with changeHeld := false } }
  | _ => s

/-- The host's strobes stand as the lines show them. -/
def State.seeStrobes (s : State) (b : HostBus) : State :=
  s.withHost { s.host with rdStrobe := s.host.rdStrobe || b.rd, wrStrobe := s.host.wrStrobe || b.wr }

/-- An arrival is taken (R1): both strobes at once are answered with HERR (R15); a setup read is answered from the shadow
and the live state with its side effect (R4); any other access waits for a grant (R5). -/
def State.arrive (s : State) (b : HostBus) (pins : Pins) : State :=
  let t := s.seeStrobes b
  if b.rd && b.wr then t.withHost { t.host with answer := some ⟨true, true, true, none⟩ }
  else
    let r := s.recordOf b
    match r.cls, r.write with
    | .setup off, false =>
      (t.setupReadEffect (setupWordAt off)).endAccess r false (some (s.setupReadWord pins (setupWordAt off)))
    | _, _ => t.withHost { t.host with port := .waiting r, answer := none }

/-- The host has released both strobes since its last access held them (R1). -/
def HostSide.strobesReleased (h : HostSide) : Bool := !h.rdStrobe && !h.wrStrobe

/-- The host's lines assert the strobe that the access r has. -/
def HostRecord.ownStrobe (r : HostRecord) (b : HostBus) : Bool := if r.write then b.wr else b.rd

/-- A strobe asserted over the abandoned cycle of the access r (R14, R15): one of the access's own kind waits, with the host's
lines, to arrive once the port is in HP_IDLE; one of the other kind is only held asserted. -/
def State.strobeAgain (s : State) (r : HostRecord) (cyc : HostCycle) (b : HostBus) : State :=
  let t := s.seeStrobes b
  if r.ownStrobe b && cyc.again.isNone then
    t.withHost { t.host with port := .access r { cyc with again := some b } }
  else t

/-- The strobe that waited over the abandoned cycle of r arrives with the lines b, the port now in HP_IDLE (R14), unless the
host still asserts a strobe of the other kind: then no arrival is taken until both have been released (R15). The lines are
those of the assertion, which the host keeps steady (chapter 1.1, log entry 10). -/
def State.arriveAgain (s : State) (r : HostRecord) (b : HostBus) (pins : Pins) : State :=
  if (if r.write then s.host.rdStrobe else s.host.wrStrobe) then s
  else (s.withHost { s.host with rdStrobe := false, wrStrobe := false }).arrive
    { b with rd := !r.write, wr := r.write } pins

/-- The host port sees a strobe (R1, R14, R15). In HP_IDLE with both strobes released before, it arrives. While an access
is in progress, or until both strobes have been released, it is only held asserted; one asserted again over an access
that was abandoned in HP_ACCESS waits to arrive once the port is in HP_IDLE (log entry 10). -/
def State.strobe (s : State) (b : HostBus) (pins : Pins) : State :=
  if !s.resetn || !(b.rd || b.wr) then s
  else match s.host.port with
    | .idle => if s.host.strobesReleased then s.noting (s.arrive b pins) else s.seeStrobes b
    | .access r cyc => if cyc.abandoned then s.strobeAgain r cyc b else s.seeStrobes b
    | _ => s.seeStrobes b

/-- HOST_ACCESS_ARRIVAL (R1). -/
def execHostAccessArrival (bus : HostBus) (pins : Pins) (s : State) : Host.Outcome State Fault Refusal :=
  .next (s.strobe bus pins)

/-- The host's lines for a read of lane n's mirror word (R159). -/
def State.mirrorReadBus (s : State) (n : LaneId) (be : Enables) : HostBus :=
  ⟨BitVec.ofNat 22 ((s.setupBase + mirrorWordOffset n) / 4), be, 0, true, false⟩

/-- MIRROR_WORD_READ (R159): the host reads lane n's mirror word; the read is answered at its arrival with the live
levels and clears the change-held flag. In bypass the same read is a PLAIN access (R18). -/
def execMirrorWordRead (n : LaneId) (be : Enables) (pins : Pins) (s : State) : Host.Outcome State Fault Refusal :=
  .next (s.strobe (s.mirrorReadBus n be) pins)

/-! ### The grant (R6) -/

/-- What a granted host access does, by its class and direction (R6, R7, R9, R11). -/
def State.grantAccess (s : State) (pins : Pins) (r : HostRecord) : State :=
  match r.cls, r.write with
  | .setup off, true => (s.takeSetup pins (setupWordAt off) r.be r.data).memoryCycle r ⟨false, false, none, none⟩
  | .slotHeader c k, true => s.headerWrite r c k (s.headerMeaningOf r c k)
  | .slotPayload c k w, true => s.payloadWrite r c k w
  | .slotHeader c k, false => s.memoryCycle r ⟨false, false, some (s.overlayOf c k), none⟩
  | _, _ => s.memoryCycle r ⟨false, false, none, none⟩

/-- The arbiter grants the memory port to the waiting host access (R147, R148), where its decision is the host and the
access meets `p`; otherwise nothing happens. -/
def State.grantWhen (s : State) (p : State → HostRecord → Bool) (pins : Pins) : State :=
  match s.host.port with
  | .waiting r => if s.hostWins && p s r then s.countPatience.grantAccess pins r else s
  | _ => s

/-- HOST_GRANT (R6): the waiting host access, whatever it is, is granted. -/
def execHostGrant (pins : Pins) (s : State) : Host.Outcome State Fault Refusal :=
  .next (s.grantWhen (fun _ _ => true) pins)

/-! ### Completion, early release and strobe release -/

/-- The word a completed host read drives on HD (R11, R12). -/
def HostCycle.readWord (cyc : HostCycle) (data : Word) : Word :=
  match cyc.overlay with
  | some o => o.apply data
  | none => data

/-- HOST_ACCESS_COMPLETION (R12): the memory ends the host's cycle, with the word returned and MERR. HERR is MERR, or due
for a refused commit under REJECT. An abandoned access drives nothing toward the host, and a strobe asserted again over it
arrives now (R14). With no host cycle on the port, nothing happens. -/
def execHostAccessCompletion (data : CycleEnd) (merr : Bool) (s : State) : Host.Outcome State Fault Refusal :=
  .next (match s.host.port with
    | .access r cyc =>
      if cyc.abandoned then
        let t := s.freePort.withHost { s.host with port := .idle }
        match cyc.again with
        | some b => t.arriveAgain r b data.pins
        | none => t
      else s.freePort.endAccess r (merr || cyc.herr) (if r.write then none else some (cyc.readWord data.word))
    | _ => s)

/-- The strobe of the access r is released; the other one stays as it is. -/
def HostSide.releaseOwn (h : HostSide) (r : HostRecord) : HostSide :=
  if r.write then { h with wrStrobe := false } else { h with rdStrobe := false }

/-- EARLY_STROBE_RELEASE (R14): the host releases the strobe of the access in progress. A waiting or held access ends with
no memory cycle and its stall timer stops; one in HP_ACCESS is abandoned and its cycle runs on, and a strobe asserted again over
it is released. With no access in progress, nothing happens. -/
def execEarlyStrobeRelease (s : State) : Host.Outcome State Fault Refusal :=
  .next (match s.host.port with
    | .waiting r => s.noting (s.clearGuard.withHost { s.host.releaseOwn r with port := .idle })
    | .held r => s.clearGuard.withHost { s.host.releaseOwn r with port := .idle }
    | .access r cyc => s.withHost { s.host.releaseOwn r with port := .access r { cyc with abandoned := true, again := none } }
    | .idle => s)

/-- The named strobes are released; the answer is kept while a strobe of its access stays asserted (R1). The answer to both
strobes (R15) is kept until both are released, where R1 says "its strobe": the model's choice (log entry 26). -/
def HostSide.release (h : HostSide) (rd wr : Bool) : HostSide :=
  let h := { h with rdStrobe := h.rdStrobe && !rd, wrStrobe := h.wrStrobe && !wr }
  match h.answer with
  | some a => if (a.rd && h.rdStrobe) || (a.wr && h.wrStrobe) then h else { h with answer := none }
  | none => h

/-- HOST_STROBE_RELEASE (R1): after an access has ended, the host releases the named strobes. While an access is in
progress only a strobe of the other kind can be released so (R15): its own strobe's release is an early release. -/
def execHostStrobeRelease (rd wr : Bool) (s : State) : Host.Outcome State Fault Refusal :=
  .next (match s.host.port with
    | .idle => s.withHost (s.host.release rd wr)
    | .waiting r => s.withHost (s.host.release (rd && r.write) (wr && !r.write))
    | .held r => s.withHost (s.host.release (rd && r.write) (wr && !r.write))
    | .access r _ => s.withHost (s.host.release (rd && r.write) (wr && !r.write)))

/-! ### The two edges of RESETn (R16) -/

/-- HARDWARE_RESET (R16): RESETn falls. The access in progress ends unperformed and the host is released with no data and
no HERR; every block takes its reset state; the straps are sampled. -/
def execHardwareReset (sbase : BitVec 8) (bypass : Bool) (s : State) : Host.Outcome State Fault Refusal :=
  .next { s.resetBlocks with resetn := false, sbase := sbase, bypass := bypass }

/-- RESET_RELEASE (R16): RESETn rises. The straps last sampled stand, the watch levels are sampled (R155), and a strobe
the host is asserting is taken as an arrival. With RESETn already high, nothing happens. -/
def execResetRelease (sbase : BitVec 8) (bypass : Bool) (bus : HostBus) (pins : Pins) (s : State) :
    Host.Outcome State Fault Refusal :=
  .next (if s.resetn then s
    else
      let t := { s with resetn := true, sbase := sbase, bypass := bypass }
      (t.sampleAll pins).strobe bus pins)

end Sys2Proof.Machine
end

