-- ==== Sys2Proof/Machine/SetupCommands.lean ====
section
/-! DEFINITION. The commands that are host grants of setup writes. Each is the whole step of that grant (R6, R7): the
arbiter's grant, everything the write makes the part do, and the start of its memory cycle. A command whose write is not
the one that waits, or whose grant the arbiter does not make, is no event (log entries 4 and 5). -/

namespace Sys2Proof.Machine

/-- The setup word a recorded SETUP write addresses. -/
def HostRecord.setupTarget (r : HostRecord) : Option SetupWord :=
  match r.cls, r.write with
  | .setup off, true => some (setupWordAt off)
  | _, _ => none

/-- The access is a device control write without RESTART. -/
def plainControl (r : HostRecord) : Bool :=
  r.setupTarget == some .deviceControl && !carriesRestart r.be r.data

/-- The access writes a word that `p` accepts, given its owner lane or channel. -/
def targets (r : HostRecord) (p : SetupWord → Bool) : Bool :=
  match r.setupTarget with
  | some w => p w
  | none => false

/-- RESTART (R32): the grant of a device control write with RESTART set. -/
def execRestart (pins : Pins) (s : State) : Host.Outcome State Fault Refusal :=
  .next (s.grantWhen (fun _ r => r.setupTarget == some .deviceControl && carriesRestart r.be r.data) pins)

/-- ACTIVE_SET (R26): the grant of a device control write that takes ACTIVE from 0 to 1. -/
def execActiveSet (s : State) : Host.Outcome State Fault Refusal :=
  .next (s.grantWhen (fun s r => plainControl r && !s.dev.active && (s.controlPresented r.be r.data).getLsbD 0) .low)

/-- ACTIVE_CLEAR (R27): the grant of a device control write that takes ACTIVE from 1 to 0. -/
def execActiveClear (s : State) : Host.Outcome State Fault Refusal :=
  .next (s.grantWhen (fun s r => plainControl r && s.dev.active && !(s.controlPresented r.be r.data).getLsbD 0) .low)

/-- IRQ_EN_AND_PATIENCE_WRITE (R28): the grant of a device control write that writes the byte of IRQ_EN or the byte of
PATIENCE. -/
def execIrqEnAndPatienceWrite (s : State) : Host.Outcome State Fault Refusal :=
  .next (s.grantWhen (fun _ r => plainControl r && (r.be.getLsbD 0 || r.be.getLsbD 2)) .low)

/-- RING_SIZE_CHANGE (R29): the grant of a device control write that presents another RING_SIZE. -/
def execRingSizeChange (s : State) : Host.Outcome State Fault Refusal :=
  .next (s.grantWhen
    (fun s r => plainControl r && field (s.controlPresented r.be r.data) 8 3 != s.dev.ringSize) .low)

/-- RING_BASE_WRITE (R172): the grant of a write of the ring base word. -/
def execRingBaseWrite (s : State) : Host.Outcome State Fault Refusal :=
  .next (s.grantWhen (fun _ r => r.setupTarget == some .ringBase) .low)

/-- CONSUMER_INDEX_WRITE (R170): the grant of a write of the consumer index. -/
def execConsumerIndexWrite (s : State) : Host.Outcome State Fault Refusal :=
  .next (s.grantWhen (fun _ r => r.setupTarget == some .consumerIndex) .low)

/-- LOST_CLEAR (R31): the grant of a device status write with LOST presented as 1. -/
def execLostClear (s : State) : Host.Outcome State Fault Refusal :=
  .next (s.grantWhen (fun _ r => r.setupTarget == some .deviceStatus && clearsLost r.be r.data) .low)

/-- LANE_MODE_CHANGE (R88, R89): the grant of a lane mode word write that changes MODE, accepted or refused. -/
def execLaneModeChange (pins : Pins) (s : State) : Host.Outcome State Fault Refusal :=
  .next (s.grantWhen (fun s r => targets r fun w => match w with
    | .laneMode n => s.writtenMode n r.be r.data != (s.lane n).mode
    | _ => false) pins)

/-- LANE_MASKS_WRITE (R88, R158): the grant of a lane mode word write that leaves MODE unchanged. -/
def execLaneMasksWrite (s : State) : Host.Outcome State Fault Refusal :=
  .next (s.grantWhen (fun s r => targets r fun w => match w with
    | .laneMode n => s.writtenMode n r.be r.data == (s.lane n).mode
    | _ => false) .low)

/-- LANE_TIMER_WRITE (R90). -/
def execLaneTimerWrite (s : State) : Host.Outcome State Fault Refusal :=
  .next (s.grantWhen (fun _ r => targets r fun w => match w with
    | .laneTimer _ => true
    | _ => false) .low)

/-- MIRROR_WORD_WRITE (R157). -/
def execMirrorWordWrite (s : State) : Host.Outcome State Fault Refusal :=
  .next (s.grantWhen (fun _ r => targets r fun w => match w with
    | .laneMirror _ => true
    | _ => false) .low)

/-- RUN_REQUEST (R44, R46, R47): the grant of a control write with RUN set to a channel that is OFF or REJECTED. -/
def execRunRequest (s : State) : Host.Outcome State Fault Refusal :=
  .next (s.grantWhen (fun s r => targets r fun w => match w with
    | .chanControl c => !(s.chan c).running && runRequestOf r.be r.data == some true
    | _ => false) .low)

/-- CHANNEL_STOP (R48): the grant of a control write with RUN cleared to a RUNNING channel. -/
def execChannelStop (s : State) : Host.Outcome State Fault Refusal :=
  .next (s.grantWhen (fun s r => targets r fun w => match w with
    | .chanControl c => (s.chan c).running && runRequestOf r.be r.data == some false
    | _ => false) .low)

/-- CHANNEL_BINDING_WRITE (R39, R40): the grant of a control write with no run request to a channel that is OFF or
REJECTED. -/
def execChannelBindingWrite (s : State) : Host.Outcome State Fault Refusal :=
  .next (s.grantWhen (fun s r => targets r fun w => match w with
    | .chanControl c => !(s.chan c).running && runRequestOf r.be r.data != some true
    | _ => false) .low)

/-- GUARD_CHANGE (R41): the grant of a control write to a RUNNING channel that does not clear RUN. -/
def execGuardChange (s : State) : Host.Outcome State Fault Refusal :=
  .next (s.grantWhen (fun s r => targets r fun w => match w with
    | .chanControl c => (s.chan c).running && runRequestOf r.be r.data != some false
    | _ => false) .low)

/-- ARRAY_GEOMETRY_WRITE (R42): the grant of a write of an array base or geometry word. -/
def execArrayGeometryWrite (s : State) : Host.Outcome State Fault Refusal :=
  .next (s.grantWhen (fun _ r => targets r fun w => match w with
    | .chanBase _ => true
    | .chanGeometry _ => true
    | _ => false) .low)

/-- STALL_LIMIT_WRITE (R43). -/
def execStallLimitWrite (s : State) : Host.Outcome State Fault Refusal :=
  .next (s.grantWhen (fun _ r => targets r fun w => match w with
    | .chanStall _ => true
    | _ => false) .low)

/-- ENABLE_SET (R52). -/
def execEnableSet (s : State) : Host.Outcome State Fault Refusal :=
  .next (s.grantWhen (fun _ r => targets r fun w => match w with
    | .enableSet _ => true
    | _ => false) .low)

/-- ENABLE_CLEAR (R52). -/
def execEnableClear (s : State) : Host.Outcome State Fault Refusal :=
  .next (s.grantWhen (fun _ r => targets r fun w => match w with
    | .enableClear _ => true
    | _ => false) .low)

/-- IGNORED_SETUP_WRITE (R21, R22, R31): the grant of a write to a live word, an unused offset, or the device status word
without LOST. -/
def execIgnoredSetupWrite (s : State) : Host.Outcome State Fault Refusal :=
  .next (s.grantWhen (fun _ r => targets r fun w => match w with
    | .producerIndex => true
    | .laneStatus _ => true
    | .chanStatus _ => true
    | .chanCounts _ => true
    | .unused => true
    | .deviceStatus => !clearsLost r.be r.data
    | _ => false) .low)

end Sys2Proof.Machine
end

