-- ==== Sys2Proof/Machine/SlotCommands.lean ====
section
/-! DEFINITION. The commands that are host grants of slot header writes with a meaning for the slot (R65). Each is the whole
step of that grant; a command whose write is not the one that waits, or whose grant the arbiter does not make, is no
event. -/

namespace Sys2Proof.Machine

/-- The meaning that the recorded access would have at its grant now, if it is a SLOT_HEADER write (R65). -/
def State.meaningAtGrant (s : State) (r : HostRecord) : Option HeaderMeaning :=
  match r.cls, r.write with
  | .slotHeader c k, true => some (s.headerMeaningOf r c k)
  | _, _ => none

/-- The recorded access is a SLOT_HEADER write with a LENGTH of 1 or more to an outbound slot in `state`. -/
def State.commitTo (s : State) (r : HostRecord) (state : SlotState) : Bool :=
  match r.cls, r.write with
  | .slotHeader c k, true => (s.chan c).dir == .outbound && (s.slot c k).state == state &&
      (match headerLength r.be r.data with
        | some len => decide (1 ≤ len)
        | none => false)
  | _, _ => false

/-- COMMIT (R66): the grant of a header write with LENGTH 1 or more to an outbound FREE slot: taken, refused for its LENGTH
(R67), or refused or held for a full queue (R77). -/
def execCommit (s : State) : Host.Outcome State Fault Refusal :=
  .next (s.grantWhen (fun s r => s.commitTo r .free) .low)

/-- WITHDRAW (R68): the grant of a header write with LENGTH 0 to a COMMITTED slot. -/
def execWithdraw (s : State) : Host.Outcome State Fault Refusal :=
  .next (s.grantWhen (fun s r => s.meaningAtGrant r == some .withdraw) .low)

/-- RECOMMIT (R69): the grant of a header write with LENGTH 1 or more to a FAILED slot: taken, refused for its LENGTH
(R67), or refused or held for a full queue (R77). -/
def execRecommit (s : State) : Host.Outcome State Fault Refusal :=
  .next (s.grantWhen (fun s r => s.commitTo r .failed) .low)

/-- FAILED_SLOT_FREE (R69): the grant of a header write with LENGTH 0 to a FAILED slot. -/
def execFailedSlotFree (s : State) : Host.Outcome State Fault Refusal :=
  .next (s.grantWhen (fun s r => s.meaningAtGrant r == some .failedFree) .low)

/-- RELEASE (R70): the grant of a header write to an inbound READY slot. -/
def execRelease (s : State) : Host.Outcome State Fault Refusal :=
  .next (s.grantWhen (fun s r => s.meaningAtGrant r == some .release) .low)

end Sys2Proof.Machine
end

