-- ==== Sys2Proof/Machine/Dispatch.lean ====
section
/-! DEFINITION. One arm per command: the meaning that gives its effect on everything but the queue. -/

namespace Sys2Proof.Machine

def exec (i : Instr) (s : State) : Host.Outcome State Fault Refusal :=
  match i with
  | .hostAccessArrival bus pins => Sys2Proof.Machine.execHostAccessArrival bus pins s
  | .mirrorWordRead n be pins => Sys2Proof.Machine.execMirrorWordRead n be pins s
  | .hostGrant pins => Sys2Proof.Machine.execHostGrant pins s
  | .hostAccessCompletion data merr => Sys2Proof.Machine.execHostAccessCompletion data merr s
  | .earlyStrobeRelease => Sys2Proof.Machine.execEarlyStrobeRelease s
  | .hardwareReset sbase bypass => Sys2Proof.Machine.execHardwareReset sbase bypass s
  | .resetRelease sbase bypass bus pins => Sys2Proof.Machine.execResetRelease sbase bypass bus pins s
  | .restart pins => Sys2Proof.Machine.execRestart pins s
  | .activeSet => Sys2Proof.Machine.execActiveSet s
  | .activeClear => Sys2Proof.Machine.execActiveClear s
  | .irqEnAndPatienceWrite => Sys2Proof.Machine.execIrqEnAndPatienceWrite s
  | .ringSizeChange => Sys2Proof.Machine.execRingSizeChange s
  | .ringBaseWrite => Sys2Proof.Machine.execRingBaseWrite s
  | .consumerIndexWrite => Sys2Proof.Machine.execConsumerIndexWrite s
  | .lostClear => Sys2Proof.Machine.execLostClear s
  | .laneModeChange pins => Sys2Proof.Machine.execLaneModeChange pins s
  | .laneMasksWrite => Sys2Proof.Machine.execLaneMasksWrite s
  | .laneTimerWrite => Sys2Proof.Machine.execLaneTimerWrite s
  | .mirrorWordWrite => Sys2Proof.Machine.execMirrorWordWrite s
  | .runRequest => Sys2Proof.Machine.execRunRequest s
  | .channelStop => Sys2Proof.Machine.execChannelStop s
  | .channelBindingWrite => Sys2Proof.Machine.execChannelBindingWrite s
  | .guardChange => Sys2Proof.Machine.execGuardChange s
  | .arrayGeometryWrite => Sys2Proof.Machine.execArrayGeometryWrite s
  | .stallLimitWrite => Sys2Proof.Machine.execStallLimitWrite s
  | .enableSet => Sys2Proof.Machine.execEnableSet s
  | .enableClear => Sys2Proof.Machine.execEnableClear s
  | .ignoredSetupWrite => Sys2Proof.Machine.execIgnoredSetupWrite s
  | .commit => Sys2Proof.Machine.execCommit s
  | .withdraw => Sys2Proof.Machine.execWithdraw s
  | .recommit => Sys2Proof.Machine.execRecommit s
  | .failedSlotFree => Sys2Proof.Machine.execFailedSlotFree s
  | .release => Sys2Proof.Machine.execRelease s
  | .stallTimerExpiry => Sys2Proof.Machine.execStallTimerExpiry s
  | .memoryPortGrant => Sys2Proof.Machine.execMemoryPortGrant s
  | .sendMoverReadCompletion data merr => Sys2Proof.Machine.execSendMoverReadCompletion data merr s
  | .receiveMoverWriteCompletion merr => Sys2Proof.Machine.execReceiveMoverWriteCompletion merr s
  | .noticeWordCompletion merr => Sys2Proof.Machine.execNoticeWordCompletion merr s
  | .take n => Sys2Proof.Machine.execTake n s
  | .takeTimerExpiry n => Sys2Proof.Machine.execTakeTimerExpiry n s
  | .abortStrobeEnd n => Sys2Proof.Machine.execAbortStrobeEnd n s
  | .put n byte mark => Sys2Proof.Machine.execPut n byte mark s
  | .engineAbort n => Sys2Proof.Machine.execEngineAbort n s
  | .byteTimerExpiry n => Sys2Proof.Machine.execByteTimerExpiry n s
  | .slotWaitExpiry n => Sys2Proof.Machine.execSlotWaitExpiry n s
  | .wantRise n => Sys2Proof.Machine.execWantRise n s
  | .wantFall n => Sys2Proof.Machine.execWantFall n s
  | .watchSample pins => Sys2Proof.Machine.execWatchSample pins s
  | .hostStrobeRelease rd wr => Sys2Proof.Machine.execHostStrobeRelease rd wr s
  | .takeAssertion n => Sys2Proof.Machine.execTakeAssertion n s
  | .markAssertion n => Sys2Proof.Machine.execMarkAssertion n s

end Sys2Proof.Machine
end

