-- ==== Sys2Proof/WellFormed.lean ====
section
/-! DEFINITION. Which commands a sender may send: the few relations between operands that their types do not already
say. A command that fails its check describes no event of the outside world; the machine takes it as no event. -/

namespace Sys2Proof

/-- The even lanes, whose odd partner lends them its control lines in DUPLEX (R87). -/
def LaneId.even (n : LaneId) : Bool := n == 0 || n == 2

/-- The check of one command: an arrival asserts a strobe (R1), a strobe release names a strobe, and WANT belongs to an
even lane (R86). -/
def Instr.wellFormed (i : Instr) : Bool :=
  match i with
  | .hostAccessArrival bus _ => bus.rd || bus.wr
  | .hostStrobeRelease rd wr => rd || wr
  | .wantRise n => LaneId.even n
  | .wantFall n => LaneId.even n
  | .mirrorWordRead _ _ _ => true
  | .hostGrant _ => true
  | .hostAccessCompletion _ _ => true
  | .earlyStrobeRelease => true
  | .hardwareReset _ _ => true
  | .resetRelease _ _ _ _ => true
  | .restart _ => true
  | .activeSet => true
  | .activeClear => true
  | .irqEnAndPatienceWrite => true
  | .ringSizeChange => true
  | .ringBaseWrite => true
  | .consumerIndexWrite => true
  | .lostClear => true
  | .laneModeChange _ => true
  | .laneMasksWrite => true
  | .laneTimerWrite => true
  | .mirrorWordWrite => true
  | .runRequest => true
  | .channelStop => true
  | .channelBindingWrite => true
  | .guardChange => true
  | .arrayGeometryWrite => true
  | .stallLimitWrite => true
  | .enableSet => true
  | .enableClear => true
  | .ignoredSetupWrite => true
  | .commit => true
  | .withdraw => true
  | .recommit => true
  | .failedSlotFree => true
  | .release => true
  | .stallTimerExpiry => true
  | .memoryPortGrant => true
  | .sendMoverReadCompletion _ _ => true
  | .receiveMoverWriteCompletion _ => true
  | .noticeWordCompletion _ => true
  | .take _ => true
  | .takeTimerExpiry _ => true
  | .abortStrobeEnd _ => true
  | .put _ _ _ => true
  | .engineAbort _ => true
  | .byteTimerExpiry _ => true
  | .slotWaitExpiry _ => true
  | .watchSample _ => true
  | .takeAssertion _ => true
  | .markAssertion _ => true

end Sys2Proof
end

