-- ==== Sys2Proof/Safety.lean ====
section
/-! DEFINITION. The terms in which claims about the IW8 are made: what a grant, a memory cycle and a generated notice are in
the manual's words, and the laws of the part, as predicates of a state that can be decided. -/

namespace Sys2Proof.Machine

/-! ### A host grant in the manual's words -/

/-- The nine internal requesters, in the order of the circle (R145). -/
def internalRequesters : List Requester :=
  [.notice, .send 0, .recv 0, .send 1, .recv 1, .send 2, .recv 2, .send 3, .recv 3]

/-- Some internal requester's request stands: it was presented when the port became FREE (R147). -/
def State.internalStanding (s : State) : Bool := internalRequesters.any s.stands

/-- Some internal requester's request joins: it came at the moment the port became FREE (R147, R153). -/
def State.internalJoining (s : State) : Bool := internalRequesters.any s.joins

/-- Some internal requester's request contends for the next grant (R147). -/
def State.internalContending (s : State) : Bool := internalRequesters.any s.contends

/-- The host access r waits, the memory port is FREE, the host's request contends and the arbiter's decision is the host (R147,
R148): no internal request stands, or patience is left. An internal request that came at the moment the port became FREE, or
with the host's at the FREE port, does not take the grant from it. -/
abbrev HostGranted (s : State) (r : HostRecord) : Prop :=
  s.host.port = .waiting r ∧ s.arb.port = none ∧ s.contends .host = true ∧
    (s.internalStanding = false ∨ s.arb.patienceCtr < s.dev.patience)

/-- The access r is a write of the setup word w (R2, R7). -/
abbrev SetupWrite (r : HostRecord) (w : SetupWord) : Prop := r.setupTarget = some w

/-- The access r is a write of the device control word that carries no RESTART (R25). -/
abbrev ControlWrite (r : HostRecord) : Prop :=
  SetupWrite r .deviceControl ∧ ¬(r.be.getLsbD 0 = true ∧ r.data.getLsbD 7 = true)

/-- What a host grant leaves before the access's own effect: the arbiter, and the count of free values. -/
structure HostGrant where
  arb : Arbiter
  freeCount : Nat
  deriving DecidableEq, Repr

/-- The host grant made in s: the patience counter one higher if an internal request is among those of the decision (R148), and
the internal requests presented now those of the next one (R146, R147). Where none stands and patience is left, an internal
request that came at the moment the port became FREE is among them as a free value says (R153, log entry 25); one presented
with the host's at a FREE port is not (R147). -/
def State.granted (s : State) : HostGrant :=
  let mayCount := s.internalStanding = false ∧ s.internalJoining = true ∧ s.arb.patienceCtr < s.dev.patience
  { arb := { s.arb with
      patienceCtr := if s.internalStanding = true ∨ (mayCount ∧ Config.takenInTime s.freeCount = true)
        then s.arb.patienceCtr + 1 else s.arb.patienceCtr
      contest := .opened (internalRequesters.filter s.presented) }
    freeCount := if mayCount then s.freeCount + 1 else s.freeCount }

/-- The arbiter once the access in progress in s has completed (R146): the port FREE, and the requests presented before that
moment those of the next decision (R147). -/
def State.freedArb (s : State) : Arbiter :=
  { s.arb with port := none, contest := .opened ((Requester.host :: internalRequesters).filter s.presented) }

/-- The memory cycle of the host access r starts (R6): HP_ACCESS, and the memory port BUSY with the recorded address, byte
enables and write data; the rest of the arbiter, and the count of free values, are as the grant leaves them. -/
def State.withCycle (t : State) (g : HostGrant) (r : HostRecord) (cyc : HostCycle) : State :=
  { t with
    host := { t.host with port := .access r cyc }
    freeCount := g.freeCount
    arb := { g.arb with port := some ⟨.host, ⟨r.addr, r.be, if r.write then some r.data else none⟩⟩ } }

/-- A cycle with nothing due at its completion but the memory's own answer. -/
def HostCycle.bare : HostCycle := ⟨false, false, none, none⟩

/-- The host access r is answered without a memory cycle (R9): HP_IDLE, HERR as given; the memory port stays FREE, and the
arbiter and the count of free values are as the grant leaves them. -/
def State.withoutCycle (t : State) (g : HostGrant) (r : HostRecord) (herr : Bool) : State :=
  { t with
    host := { t.host with port := .idle, answer := some ⟨!r.write, r.write, herr, none⟩ }
    freeCount := g.freeCount
    arb := g.arb }

/-- One written field of a setup word whose bits all lie in byte `b` (R8): the presented value if the byte's enable is
active, else the shadow's. -/
def writtenField {w : Nat} (r : HostRecord) (b lo : Nat) (old : BitVec w) : BitVec w :=
  if r.be.getLsbD b then field r.data lo w else old

/-- One written flag at bit i of a setup word (R8). -/
def writtenBit (r : HostRecord) (i : Nat) (old : Bool) : Bool :=
  if r.be.getLsbD (i / 8) then r.data.getLsbD i else old

/-! ### Setup writes in the manual's words -/

/-- The device block with ACTIVE, IRQ_EN and PATIENCE as the control write r leaves them (R25, R26, R28). -/
def DeviceShadow.written (d : DeviceShadow) (r : HostRecord) : DeviceShadow :=
  { d with
    active := writtenBit r 0 d.active
    irqEn := writtenBit r 1 d.irqEn
    patience := writtenField r 2 16 d.patience }

/-- The base that a write of the ring base word presents (R172): 24 bits, the low 3 read as 0, bytes not written from the
shadow. -/
def State.writtenBase (s : State) (r : HostRecord) : Addr :=
  field (mergeBytes r.be (place 0 s.dev.ringBase) r.data) 0 24 &&& 0xFFFFF8

/-- The ring of this base and RING_SIZE may stand (R172): inside the address space, apart from the setup area and from the
array of every RUNNING channel. -/
abbrev RingFits (s : State) (base : Addr) (size : BitVec 3) : Prop :=
  base.toNat + 8 * ringRecords size ≤ 0x1000000 ∧
  (ringExtent base size).overlaps s.setupExtent = false ∧
  ∀ c : ChanId, (s.chan c).state = .running → (ringExtent base size).overlaps (s.chan c).extent = false

/-- The notice unit after an accepted ring change to `size` (R172): both indices 0, the list kept, and the head notice
started again from word 0 if a ring is configured. -/
def NoticeUnit.moved (x : NoticeUnit) (size : BitVec 3) : NoticeUnit :=
  { x with
    prod := 0
    cons := 0
    writer := if x.list ≠ [] ∧ size ≠ 0 then .word0Waiting else .idle }

/-- A channel's record once DIRECTION, LANE, ROUTE and GUARD have taken what the control write r presents in its written
bytes (R39, R40). -/
def Channel.bound (ch : Channel) (r : HostRecord) : Channel :=
  { ch with
    dir := if writtenBit r 1 (ch.dir == .inbound) then .inbound else .outbound
    lane := (writtenField r 0 4 (BitVec.ofFin (w := 2) ch.lane)).toFin
    route := writtenField r 1 8 ch.route
    guard := writtenField r 2 16 ch.guard }

/-- The eleven checks of run validation, in their order, for channel c with the record b that the control write leaves
(R44): each reason with whether its check fails. -/
def State.runFailures (s : State) (c : ChanId) (b : Channel) : List (RunReason × Bool) :=
  [(.inactive, !s.dev.active),
   (.guardCode, b.guard == 3),
   (.geometry, decide (8 < b.sizeCode.toNat ∨ b.count.toNat = 0 ∨ 64 < b.count.toNat)),
   (.align, decide (b.base.toNat % b.size ≠ 0)),
   (.range, decide (0xFFFFFF < b.base.toNat + b.count.toNat * b.size - 1)),
   (.overlapSetup, b.extent.overlaps s.setupExtent),
   (.overlapRing, s.dev.ringSize != 0 && b.extent.overlaps (ringExtent s.dev.ringBase s.dev.ringSize)),
   (.overlapChannel, allChans.any fun d => d != c && (s.chan d).state == .running && b.extent.overlaps (s.chan d).extent),
   (.laneMode, match b.dir with
      | .outbound => (s.lane b.lane).mode != .send && (s.lane b.lane).mode != .duplex
      | .inbound => (s.lane b.lane).mode != .receive && (s.lane b.lane).mode != .duplex),
   (.routeTaken, allChans.any fun d => d != c && (s.chan d).state == .running && (s.chan d).lane == b.lane &&
      (s.chan d).dir == b.dir && (s.chan d).route == b.route),
   (.stallLimit, b.guard == 2 && b.stallLimit == 0)]

/-- The first check that fails gives REASON (R44). -/
def State.firstFailure (s : State) (c : ChanId) (b : Channel) : Option RunReason :=
  ((s.runFailures c b).find? fun x => x.2).map fun x => x.1

/-- A mode change of lane n to m is refused with LANE_PARTNER unless LANE_BOUND refuses it first (R88). -/
abbrev PartnerRefuses (s : State) (n : LaneId) (m : LaneMode) : Prop :=
  (m = .duplex ∧ oddLane n = true) ∨
  (m = .duplex ∧ oddLane n = false ∧ (s.lane (mate n)).mode ≠ .mirror) ∨
  (oddLane n = true ∧ m ≠ .mirror ∧ (s.lane (mate n)).mode = .duplex)

/-- A RUNNING channel is bound to lane n (R88, LANE_BOUND). -/
abbrev LaneBound (s : State) (n : LaneId) : Prop :=
  ∃ c : ChanId, (s.chan c).state = .running ∧ (s.chan c).lane = n

/-- The word that lane n's mode word holds once the write r has given its written bytes (R8, R88). -/
def State.modeWritten (s : State) (n : LaneId) (r : HostRecord) : Word := mergeBytes r.be (s.lane n).modeWord r.data

/-! ### A notice in the manual's words -/

/-- The notice unit when a notice is generated while a ring of `records` is configured (R164, R167): the notice takes the
next NUMBER; with 8 pending it is dropped and LOST set; else it joins the list, and an idle writer with room in the ring
presents word 0. -/
def NoticeUnit.take (x : NoticeUnit) (records : Nat) (kind : NoticeKind) (source slot seq : Byte) (detail : BitVec 16) :
    NoticeUnit :=
  if 8 ≤ x.list.length then { x with number := x.number + 1, lost := true }
  else { x with
    number := x.number + 1
    list := x.list ++ [⟨kind, source, slot, seq, detail, x.number⟩]
    writer := if x.writer = .idle ∧ (x.prod - x.cons).toNat < records then .word0Waiting else x.writer }

/-- The notice unit after an event of s whose notice has this gate (R164): unchanged while the gate is closed or RING_SIZE
is 0. -/
def State.reported (s : State) (gate : Bool) (kind : NoticeKind) (source slot seq : Byte) (detail : BitVec 16) :
    NoticeUnit :=
  if gate = true ∧ s.dev.ringSize ≠ 0 then s.nu.take (ringRecords s.dev.ringSize) kind source slot seq detail
  else s.nu

/-! ### Slots and lanes in the manual's words -/

/-- The access r is a write of the header of slot k of channel c with this LENGTH, both of its bytes enabled (R64). -/
abbrev HeaderWrite (r : HostRecord) (c : ChanId) (k len : Nat) : Prop :=
  r.cls = .slotHeader c k ∧ r.write = true ∧ r.be.getLsbD 0 = true ∧ r.be.getLsbD 1 = true ∧
    (r.data.extractLsb' 0 16).toNat = len

/-- The access r is a write that the guard guards (R65, R71), to word w of slot k of channel c: a payload write to a slot
that is COMMITTED, SENDING or FILLING, or a header write to such a slot that is not the withdraw of a COMMITTED one. -/
abbrev GuardedWrite (s : State) (r : HostRecord) (c : ChanId) (k w : Nat) : Prop :=
  r.write = true ∧
  ((s.slot c k).state = .committed ∨ (s.slot c k).state = .sending ∨ (s.slot c k).state = .filling) ∧
  (r.cls = .slotPayload c k w ∨
    (r.cls = .slotHeader c k ∧ w = 0 ∧
      ¬((s.chan c).dir = .outbound ∧ (s.slot c k).state = .committed ∧
        r.be.getLsbD 0 = true ∧ r.be.getLsbD 1 = true ∧ r.data.extractLsb' 0 16 = 0)))

/-- The sequence number a GUARD_DISCARD carries (R80). -/
def SlotRec.shownSeq (x : SlotRec) : Byte :=
  if x.state = .committed ∨ x.state = .sending ∨ x.state = .failed then x.seq else 0

/-- A lane timer started now with the limit L (R90): L × 64 µs, not started with L = 0. -/
def deadline (now : Nat) (limit : BitVec 8) : Option Nat :=
  if limit = 0 then none else some (now + 64 * limit.toNat)

/-- The state once lane n's send side has started the entry e, leaving `rest` queued (R110): the slot SENDING, the route byte
offered with the take timer, the first read presented unless an orphaned read is still in progress, and a commit held for
the queue woken (R75). -/
def State.started (s : State) (n : LaneId) (e : QueueEntry) (rest : List QueueEntry) : State :=
  let sl := s.slot e.chan e.slot
  let x := (s.lane n).snd
  ((s.setSlot e.chan e.slot { sl with state := .sending }).setSnd n
    { x with
      queue := rest
      cur := some ⟨e.chan, e.slot, sl.len, 0, 0, true⟩
      tx := []
      mover := if x.mover = .none ∧ 0 < sl.len then .waiting else x.mover
      takeTimer := deadline s.now (s.lane n).takeLimit
      data := (s.chan e.chan).route.setWidth 8 }).wakeQueue n

/-- The state once a record q that lane n fills or closes is dropped (R138): nothing gathered, the outstanding write withdrawn
or orphaned, the slot FREE with a write held for it woken, FAULTS advanced, and RX_DROPPED reported. -/
def State.dropped (s : State) (n : LaneId) (q : FillRecord) (detail : BitVec 16) (after : RecvState) : State :=
  let x := (s.lane n).rcv
  let ch := s.chan q.chan
  { (s.setRcv n { x with
        gather := []
        mover := if x.mover = .busy ∨ x.mover = .orphaned then .orphaned else .none
        state := after }).setChan q.chan { ch with
        slots := ch.slots.set q.slot ⟨.free, 0, 0⟩
        faults := ch.faults + 1 } with
    host := (s.wakeSlot q.chan q.slot).host
    nu := s.reported (ch.enables.getLsbD 3) .rxDropped (BitVec.ofNat 8 q.chan.val) (BitVec.ofNat 8 q.slot) 0 detail }

/-- The state once the record q that lane n sends has failed (R118, R119): the offer withdrawn, the abort strobe begun for 1 µs,
nothing buffered, the slot FAILED with its length and number, FAULTS advanced, TX_FAILED reported. The mover is as given. -/
def State.sendFailed (s : State) (n : LaneId) (q : SendRecord) (mover : Mover) (detail : BitVec 16) : State :=
  let x := (s.lane n).snd
  let ch := s.chan q.chan
  { (s.setSnd n { x with
        cur := none
        tx := []
        mover := mover
        takeTimer := none
        strobe := some (s.now + 1)
        takePulse := x.takePulse.map fun _ => false }).setChan q.chan { ch with
        slots := ch.slots.set q.slot { ch.slot q.slot with state := .failed }
        faults := ch.faults + 1 } with
    host := (s.wakeSlot q.chan q.slot).host
    nu := s.reported (ch.enables.getLsbD 1) .txFailed (BitVec.ofNat 8 q.chan.val) (BitVec.ofNat 8 q.slot)
      (ch.slot q.slot).seq detail }

/-- The state once the engine has taken the last byte of the record q of lane n (R117): the slot FREE, DONE advanced, TX_DONE
reported with the number and length the slot held, the side S_IDLE; what starts next is not yet taken. -/
def State.sendDone (s : State) (n : LaneId) (q : SendRecord) : State :=
  let ch := s.chan q.chan
  { (s.setSnd n { (s.lane n).snd with cur := none, takeTimer := none, takePulse := none }).setChan q.chan { ch with
        slots := ch.slots.set q.slot ⟨.free, 0, 0⟩
        done := ch.done + 1 } with
    host := (s.wakeSlot q.chan q.slot).host
    nu := s.reported (ch.enables.getLsbD 0) .txDone (BitVec.ofNat 8 q.chan.val) (BitVec.ofNat 8 q.slot)
      (ch.slot q.slot).seq (BitVec.ofNat 16 q.len) }

/-- T_IN is granted to lane n (R102): the byte timer starts if ROOM is asserted. -/
def State.takesIn (s : State) (n : LaneId) : State :=
  let l := s.lane n
  s.setLane n { l with
    turn := { l.turn with turn := .inn, putSeen := false }
    rcv := { l.rcv with
      byteTimer := if l.rcv.rx.length < 16 then deadline s.now l.byteLimit else l.rcv.byteTimer } }

/-- T_OUT is granted to lane n and its head entry e starts (R101). -/
def State.takesOut (s : State) (n : LaneId) (e : QueueEntry) (rest : List QueueEntry) : State :=
  (s.setTurn n { (s.lane n).turn with turn := .out }).started n e rest

/-- A turn of direction d of lane n has ended, before the next decision (R100, R101, R102). -/
def State.turnOver (s : State) (n : LaneId) (d : Direction) : State :=
  let l := s.lane n
  s.setLane n { l with
    turn := { l.turn with turn := .idle, last := d }
    rcv := if d = .inbound then { l.rcv with byteTimer := none, markPulse := none } else l.rcv }

/-- A send read's bytes in ascending address order (R115). -/
def wordBytes (data : Word) (count : Nat) : List Byte := (List.range count).map fun i => data.extractLsb' (8 * i) 8

/-- The changed lines of a watch sample of lane n (R160): watched, inputs at this sample and the last one, not left out since,
and at another level. -/
def State.changed (s : State) (pins : Pins) (n : LaneId) : Lines :=
  (s.lane n).watch &&& ~~~(s.driven n) &&& (s.lane n).mir.prevInput &&& ~~~(s.lane n).mir.fresh &&&
    (s.liveLines pins n ^^^ (s.lane n).mir.sampled)

/-- The level at which the part drives line i of lane n, D0 to D7 at 0 to 7 and C0 to C2 at 8 to 10; none where the line is
an input. MIRROR drives the lines of its DIR mask at their latch levels, but C0 to C2 lent to a DUPLEX lane carry that lane's
PUT, ROOM and WANT, of which ROOM alone is an output (R87, R156); SEND drives the data, OFFER and MARK; RECEIVE drives ROOM;
DUPLEX drives OFFER always and the data and MARK in T_OUT (R86, R103). The data lines keep the byte last offered (R86), MARK
goes with the offer of the last byte and with an abort strobe (R91, R94), and ROOM says that the buffer has place, in T_IN on
a DUPLEX lane (R96). -/
def State.partLevel (s : State) (n : LaneId) (i : Nat) : Option Bool :=
  let l := s.lane n
  let lent := oddLane n = true ∧ (s.lane (mate n)).mode = .duplex
  let outward (i : Nat) : Option Bool :=
    if i < 8 then some (l.snd.data.getLsbD i)
    else if i = 8 then some (decide (∃ q ∈ l.snd.cur, q.offering = true))
    else if i = 10 then
      some (decide ((∃ q ∈ l.snd.cur, q.offering = true ∧ q.offered = q.len) ∨ l.snd.strobe ≠ none))
    else none
  match l.mode with
  | .mirror =>
    if lent ∧ 8 ≤ i then
      if i = 9 then
        some (decide ((s.lane (mate n)).turn.turn = .inn ∧ (s.lane (mate n)).rcv.rx.length < 16))
      else none
    else if l.dir.getLsbD i then some (l.mir.latch.getLsbD i) else none
  | .send => outward i
  | .receive => if i = 9 then some (decide (l.rcv.rx.length < 16)) else none
  | .duplex => if i = 8 ∨ l.turn.turn = .out then outward i else none

/-! ### The laws of the part -/

/-- R163: at most 8 notices are pending; occupancy never exceeds the ring size, which is 0 with no ring; no ring of code 7
is configured (R29); a notice is being written only with room for it (R167). -/
abbrev RingLaw (s : State) : Prop :=
  s.nu.list.length ≤ 8 ∧ s.dev.ringSize ≠ 7 ∧
  (s.nu.prod - s.nu.cons).toNat ≤ ringRecords s.dev.ringSize ∧
  (s.nu.writer ≠ .idle → s.nu.list ≠ [] ∧ (s.nu.prod - s.nu.cons).toNat < ringRecords s.dev.ringSize)

/-- R106, R113, R95, R124, R132: the buffers of a lane stay within their sizes. -/
abbrev LaneBufferLaw (l : Lane) : Prop :=
  l.snd.queue.length ≤ 16 ∧ l.snd.tx.length ≤ 16 ∧
  ((l.snd.mover = .waiting ∨ l.snd.mover = .busy) → l.snd.tx.length ≤ 12) ∧
  l.rcv.rx.length ≤ 16 ∧ l.rcv.gather.length ≤ 4 ∧
  (l.rcv.gather.length = 4 → l.rcv.mover = .waiting ∨ l.rcv.mover = .busy)

/-- Every lane's buffers stay within their sizes. -/
abbrev BufferLaw (s : State) : Prop := ∀ n : LaneId, LaneBufferLaw (s.lane n)

/-- R105, R113 to R116: the current record of a send side. Every payload byte read has been offered or waits in the transmit
buffer; a starved side's buffer is empty; the mover asks only for unread bytes; with no record nothing is buffered or
asked for. -/
abbrev SendRecordLaw (x : SendSide) : Prop :=
  (∀ r ∈ x.cur, 1 ≤ r.len ∧ r.read = r.offered + x.tx.length ∧ r.read ≤ r.len ∧
    ((x.mover = .waiting ∨ x.mover = .busy) → r.read < r.len) ∧ x.strobe = none ∧
    (r.offering = false → x.tx = [] ∧ r.offered < r.len)) ∧
  (x.cur = none → x.tx = [] ∧ x.mover ≠ .waiting ∧ x.mover ≠ .busy)

/-- R124, R132, R135 (RECV_STATE 2 is R_FILLING, 3 is R_CLOSING): a receive mover asks only for a record being filled or
closed; it writes a full word of a filling record, or what a closing one still needs, and a close with nothing asked for yet
does not stand. -/
abbrev RecvRecordLaw (x : RecvSide) : Prop :=
  (x.state.code = 2 → (x.mover = .waiting ∨ x.mover = .busy) → x.gather.length = 4) ∧
  (x.state.code = 3 → x.mover ≠ .none) ∧
  (x.state.code ≠ 2 → x.state.code ≠ 3 → x.gather = [] ∧ x.mover ≠ .waiting ∧ x.mover ≠ .busy)

/-- The requester whose access is in progress on the memory port (R144). -/
def State.portOwner (s : State) : Option Requester := s.arb.port.map PortAccess.who

/-- The host port is in HP_ACCESS (R1). -/
def HostPort.inCycle : HostPort → Bool
  | .access _ _ => true
  | _ => false

/-- R146, R150: the memory port's access is the one that its requester has in progress: the host's in HP_ACCESS, the notice
writer's while it writes, a mover's while READING, WRITING or ORPHANED; no requester has one otherwise. -/
abbrev PortLaw (s : State) : Prop :=
  (s.portOwner = some .host ↔ s.host.port.inCycle = true) ∧
  (s.portOwner = some .notice ↔ (s.nu.writer = .word0Writing ∨ s.nu.writer = .word1Writing)) ∧
  ∀ n : LaneId,
    (s.portOwner = some (.send n) ↔ ((s.lane n).snd.mover = .busy ∨ (s.lane n).snd.mover = .orphaned)) ∧
    (s.portOwner = some (.recv n) ↔ ((s.lane n).rcv.mover = .busy ∨ (s.lane n).rcv.mover = .orphaned))

/-- The records of every lane's two sides stand as R105 and R124 say. -/
abbrev RecordLaw (s : State) : Prop :=
  ∀ n : LaneId, SendRecordLaw (s.lane n).snd ∧ RecvRecordLaw (s.lane n).rcv

/-- The access that waits for the memory port or is held (R1). -/
def HostPort.asked : HostPort → Option HostRecord
  | .waiting r => some r
  | .held r => some r
  | _ => none

/-- The host port is in HP_HELD (R1). -/
def HostPort.isHeld : HostPort → Bool
  | .held _ => true
  | _ => false

/-- The held write h stands for the recorded access r (R74): a slot write to its channel, slot and word. -/
abbrev HeldFor (h : HeldWrite) (r : HostRecord) : Prop :=
  r.write = true ∧
    ((r.cls = .slotHeader h.chan h.slot ∧ h.word = 0) ∨ r.cls = .slotPayload h.chan h.slot h.word)

/-- R82: the held write and the stall timer stand together, and only for the host port's own write, in HP_HELD or waiting
again after a wake. -/
abbrev GuardLaw (s : State) : Prop :=
  (s.guard.held.isSome = s.guard.stallTimer.isSome) ∧
  (∀ h ∈ s.guard.held, ∃ r ∈ s.host.port.asked, HeldFor h r) ∧
  (s.host.port.isHeld = true → s.guard.held.isSome = true)

/-- R86, R87, R101, R103, R104: what a lane's mode and turn allow. An odd lane is never DUPLEX; the odd partner of a DUPLEX
lane is in MIRROR; only a DUPLEX lane has a turn, and its send side works exactly in T_OUT; a lane with no send side sends
nothing and a lane with no receive side holds nothing received. -/
abbrev ModeLaw (s : State) : Prop :=
  ∀ n : LaneId,
    ((s.lane n).mode = .duplex → oddLane n = false ∧ (s.lane (mate n)).mode = .mirror) ∧
    ((s.lane n).mode ≠ .duplex → (s.lane n).turn.turn = .idle) ∧
    ((s.lane n).mode = .duplex →
      ((s.lane n).turn.turn = .out ↔
        ((s.lane n).snd.cur.isSome = true ∨ (s.lane n).snd.strobe.isSome = true))) ∧
    (((s.lane n).mode = .mirror ∨ (s.lane n).mode = .receive) → (s.lane n).snd = SendSide.reset) ∧
    (((s.lane n).mode = .mirror ∨ (s.lane n).mode = .send) → (s.lane n).rcv = RecvSide.reset)

/-- R38, R44, R45: a RUNNING channel has passed its checks, and they stand: a valid geometry, an aligned array inside the
address space, apart from the setup area, the configured ring and every other RUNNING array, a lane whose mode carries its
direction, and a route that no other RUNNING channel of the lane and direction has. -/
abbrev ChannelLaw (s : State) : Prop :=
  ∀ c : ChanId, (s.chan c).state = .running →
    s.dev.active = true ∧ (s.chan c).guard ≠ 3 ∧
    (s.chan c).sizeCode.toNat ≤ 8 ∧ 1 ≤ (s.chan c).count.toNat ∧ (s.chan c).count.toNat ≤ 64 ∧
    (s.chan c).base.toNat % (s.chan c).size = 0 ∧ (s.chan c).extent.stop ≤ 0x1000000 ∧
    (s.chan c).extent.overlaps s.setupExtent = false ∧
    (s.dev.ringSize ≠ 0 → (s.chan c).extent.overlaps (ringExtent s.dev.ringBase s.dev.ringSize) = false) ∧
    modeCarries (s.lane (s.chan c).lane).mode (s.chan c).dir = true ∧
    ∀ d : ChanId, d ≠ c → (s.chan d).state = .running →
      (s.chan c).extent.overlaps (s.chan d).extent = false ∧
      ¬((s.chan d).lane = (s.chan c).lane ∧ (s.chan d).dir = (s.chan c).dir ∧ (s.chan d).route = (s.chan c).route)

/-- R45, R166: a configured ring stands on a record boundary inside the address space, apart from the setup area. -/
abbrev RingPlaceLaw (s : State) : Prop :=
  s.dev.ringBase.toNat % 8 = 0 ∧
  (s.dev.ringSize ≠ 0 → (ringExtent s.dev.ringBase s.dev.ringSize).stop ≤ 0x1000000 ∧
    (ringExtent s.dev.ringBase s.dev.ringSize).overlaps s.setupExtent = false)

/-- One slot record of a channel (R61, R62, R63): a state of the channel's direction; FREE with length and number 0; a length
within the capacity, and above 0 once an outbound slot is committed. -/
abbrev SlotRecLaw (ch : Channel) (r : SlotRec) : Prop :=
  r.len ≤ ch.capacity ∧ (r.state = .free → r = SlotRec.free) ∧
  (ch.dir = .outbound → r.state = .free ∨
    ((r.state = .committed ∨ r.state = .sending ∨ r.state = .failed) ∧ 1 ≤ r.len)) ∧
  (ch.dir = .inbound → r.state = .free ∨ r.state = .filling ∨ r.state = .ready)

/-- R46, R56, R61: the slot tracker holds one record for each slot of a RUNNING channel and none for another; the fill
pointer names a slot. -/
abbrev TrackerLaw (s : State) : Prop :=
  ∀ c : ChanId,
    ((s.chan c).state ≠ .running → (s.chan c).slots = []) ∧
    ((s.chan c).state = .running →
      (s.chan c).slots.length = (s.chan c).count.toNat ∧ (s.chan c).fillPtr < (s.chan c).count.toNat ∧
      ∀ r ∈ (s.chan c).slots, SlotRecLaw (s.chan c) r)

/-- The class of a recorded access still names the array it was found in (R3). -/
abbrev ClassStands (s : State) (r : HostRecord) : Prop :=
  s.resetn = true ∧ r.cls = s.classify r.addr.toNat

/-- R3: the class recorded at an arrival stands while the access waits for its grant. -/
abbrev ClassLaw (s : State) : Prop :=
  ∀ r ∈ s.host.port.asked, ClassStands s r

/-- Channel c is RUNNING with direction d and bound to lane n (R37). -/
def State.serves (s : State) (c : ChanId) (d : Direction) (n : LaneId) : Bool :=
  (s.chan c).running && (s.chan c).dir == d && (s.chan c).lane == n

/-- How many entries of a queue name slot k of channel c. -/
def entryCount (q : List QueueEntry) (c : ChanId) (k : Nat) : Nat :=
  (q.filter fun e => e.chan == c && e.slot == k).length

/-- R106, R112: the send queues and send sides of the lanes agree with the slot states: a COMMITTED slot has exactly one
entry, in the queue of its channel's lane; every entry names a COMMITTED slot of a RUNNING outbound channel bound to the
lane; the current record of a lane's send side is its one SENDING slot, with the length the slot record has. -/
abbrev SendLaw (s : State) : Prop :=
  (∀ (c : ChanId) (n : LaneId), s.serves c .outbound n = true → ∀ k < (s.chan c).count.toNat,
    entryCount (s.lane n).snd.queue c k = (if (s.slot c k).state = .committed then 1 else 0) ∧
    ((s.slot c k).state = .sending → ((s.lane n).snd.cur.any fun r => r.chan == c && r.slot == k) = true)) ∧
  (∀ n : LaneId,
    (∀ e ∈ (s.lane n).snd.queue, s.serves e.chan .outbound n = true ∧ (s.slot e.chan e.slot).state = .committed) ∧
    ∀ r ∈ (s.lane n).snd.cur,
      s.serves r.chan .outbound n = true ∧ (s.slot r.chan r.slot).state = .sending ∧
        (s.slot r.chan r.slot).len = r.len)

/-- The channel and slot of the record that a receive side fills or closes. -/
def RecvSide.target (x : RecvSide) : Option (ChanId × Nat) :=
  match x.state with
  | .filling r => some (r.chan, r.slot)
  | .closing r => some (r.chan, r.slot)
  | _ => none

/-- The channel a receive side waits for. -/
def RecvSide.waitsFor (x : RecvSide) : Option ChanId :=
  match x.state with
  | .slotWait c _ => some c
  | _ => none

/-- The gathered bytes are the last of `len` stored ones, each in its place of its word (R132, R135). -/
def RecvSide.gatherStands (x : RecvSide) (len : Nat) : Bool :=
  decide (x.gather.length ≤ len ∧
    ((x.state.code = 2 ∨ x.gather ≠ []) → len % 4 = x.gather.length % 4))

/-- R124, R132: the record that lane n fills or closes is a FILLING slot of a RUNNING inbound channel bound to the lane, and
the gathered bytes are the last ones stored, each in its place of its word; a record waits only for a channel that could take
it. -/
abbrev FillRecordLaw (s : State) (n : LaneId) : Prop :=
  (∀ p ∈ (s.lane n).rcv.target,
    s.serves p.1 .inbound n = true ∧ (s.slot p.1 p.2).state = .filling ∧
    (s.lane n).rcv.gatherStands (s.slot p.1 p.2).len = true) ∧
  (∀ c ∈ (s.lane n).rcv.waitsFor, s.serves c .inbound n = true)

/-- R128: the receive sides agree with the slot states; a lane has at most one FILLING slot, the one its record names. -/
abbrev FillLaw (s : State) : Prop :=
  (∀ (c : ChanId) (n : LaneId), s.serves c .inbound n = true → ∀ k < (s.chan c).count.toNat,
    (s.slot c k).state = .filling → (s.lane n).rcv.target = some (c, k)) ∧
  ∀ n : LaneId, FillRecordLaw s n

/-- R125: a receive side never rests with an entry it could consume. -/
abbrev RestLaw (s : State) : Prop :=
  ∀ n : LaneId, (s.lane n).rcv.consumes = true → (s.lane n).rcv.rx = []

/-- R16, R18: while RESETn is low the part holds its reset values with the host port in HP_IDLE; in bypass every block but
the host port and its cycles does, and no slot or setup class is recorded. -/
abbrev InactiveLaw (s : State) : Prop :=
  (s.resetn = false ∨ s.bypass = true →
    s.guard = State.reset.guard ∧ s.dev = State.reset.dev ∧ s.nu = State.reset.nu ∧ s.chans = State.reset.chans ∧
      (∀ n : LaneId, { s.lane n with mir := MirrorState.reset } = Lane.reset ∧
        (s.lane n).mir.latch = 0 ∧ (s.lane n).mir.changeHeld = false)) ∧
  (s.resetn = false → s.host = State.reset.host ∧ s.arb = State.reset.arb)

/-- All the laws together: what every state that the part reaches meets. -/
structure Inv (s : State) : Prop where
  ring : RingLaw s
  buffers : BufferLaw s
  port : PortLaw s
  records : RecordLaw s
  guard : GuardLaw s
  modes : ModeLaw s
  channels : ChannelLaw s
  ringPlace : RingPlaceLaw s
  tracker : TrackerLaw s
  classes : ClassLaw s
  sends : SendLaw s
  fills : FillLaw s
  rests : RestLaw s
  inactive : InactiveLaw s

end Sys2Proof.Machine
end

