-- ==== Sys2Proof/Certificates/Slice0/Obligations.lean ====
section
/-! DEFINITION. The statements for the provers, in the terms of Safety.lean. Each says what a command or the part does, by the
rules its docstring names; a statement that gives the next state as a whole gives its frame with it. An effect `s.noting t` is t
with what the arbiter's decision was among kept, where the event has presented or withdrawn requests (R147, R152, O42). -/

open Sys2Proof Sys2Proof.Machine

/-! ### Steps and resets -/

/-- A step runs the command at the front of the queue with the queue's rest; with none waiting the part idles. The queue is
the model's own (log entry 3). -/
def Obligations.StepRunsTheFrontCommand : Prop :=
  (∀ (c : Instr) (rest : List Instr) (s : State),
    step { s with pending := c :: rest } = exec c { s with pending := rest }) ∧
  ∀ s : State, s.pending = [] → step s = .next s

/-- Every command answers a next state, and leaves the straps and RESETn alone but for the two edges of RESETn (R16, R19), and
the queue and the clock alone but for the tick (R160). That every command answers (log entry 4), that the queue stays over
every command (log entry 3) and that the clock stays over HARDWARE_RESET (log entry 9; of R34's timer base the manual says it
for a restart alone) are the model's choices. -/
def Obligations.EveryCommandKeepsQueueStrapsAndClock : Prop :=
  ∀ (c : Instr) (s : State), ∃ t, exec c s = .next t ∧ t.pending = s.pending ∧
    ((∀ a b, c ≠ .hardwareReset a b) → (∀ a b u p, c ≠ .resetRelease a b u p) →
      t.sbase = s.sbase ∧ t.bypass = s.bypass ∧ t.resetn = s.resetn) ∧
    ((∀ p, c ≠ .watchSample p) → t.now = s.now) ∧
    (∀ p, c = .watchSample p → t.now = s.now + 1)

/-- The fall of RESETn ends every access unperformed and puts every block in its reset state, with the straps sampled (R16);
every setup word then reads its reset value, and a mirror word the outside levels of eleven input lines (R35). The model's
own queue, clock and count of free values stay (log entries 3, 7 and 9). -/
def Obligations.HardwareResetResetsEveryBlock : Prop :=
  ∀ (s : State) (sbase : BitVec 8) (bypass : Bool), ∃ t,
    exec (.hardwareReset sbase bypass) s = .next t ∧
    t = { State.reset with
      pending := s.pending, resetn := false, sbase := sbase, bypass := bypass, now := s.now, freeCount := s.freeCount } ∧
    t.hwait = false ∧ t.herr = false ∧ t.hd = none ∧ t.irq = false ∧ (∀ n, t.driven n = 0) ∧
    ∀ (pins : Pins) (w : SetupWord),
      t.setupReadWord pins w =
        (match w with
          | .deviceControl => 0x00040000
          | .laneMirror n => (pins.lane n).level.setWidth 32
          | _ => 0)

/-- At the rise of RESETn the last sampled straps stand, the sampled levels are taken from the lines (R155), and a strobe the
host is asserting arrives (R16). While RESETn is high the command is no event (the model's choice, log entry 4). -/
def Obligations.ResetReleaseTakesAStrobeAsAnArrival : Prop :=
  ∀ (s : State) (sbase : BitVec 8) (bypass : Bool) (bus : HostBus) (pins : Pins),
    (s.resetn = false → ∃ u : State,
      (∀ n, u.lane n = { s.lane n with mir := { (s.lane n).mir with sampled := s.liveLines pins n } }) ∧
      u = { s with resetn := true, sbase := sbase, bypass := bypass, lanes := u.lanes } ∧
      (bus.rd = false → bus.wr = false → exec (.resetRelease sbase bypass bus pins) s = .next u) ∧
      (bus.rd = true ∨ bus.wr = true →
        exec (.resetRelease sbase bypass bus pins) s = exec (.hostAccessArrival bus pins) u)) ∧
    (s.resetn = true → exec (.resetRelease sbase bypass bus pins) s = .next s)

/-- RESTART puts every block in its reset state at the write's grant, takes the sampled levels from the lines, and lets its
own access go on to its memory cycle; straps, timer base and the host's strobes stay (R17, R32, R34, R144). -/
def Obligations.RestartResetsEveryBlock : Prop :=
  ∀ (s : State) (r : HostRecord) (pins : Pins), HostGranted s r → SetupWrite r .deviceControl →
    r.be.getLsbD 0 = true → r.data.getLsbD 7 = true → ∃ t : State,
      exec (.restart pins) s = .next t ∧
      (∀ n, t.lane n =
        { Lane.reset with mir := { MirrorState.reset with sampled := (pins.lane n).level } }) ∧
      t = { State.reset with
        pending := s.pending, resetn := s.resetn, sbase := s.sbase, bypass := s.bypass, now := s.now,
        freeCount := s.granted.freeCount,
        host := { s.host with port := .access r HostCycle.bare, answer := none },
        arb := ⟨some ⟨.host, ⟨r.addr, r.be, some r.data⟩⟩, 0, 0, .recorded .none⟩, lanes := t.lanes }

/-! ### The host port -/

/-- An arrival is recorded with its class and waits for a grant, unless it is a setup read or both strobes are asserted (R1,
R5). -/
def Obligations.ArrivalIsRecordedAndWaits : Prop :=
  ∀ (s : State) (bus : HostBus) (pins : Pins),
    s.resetn = true → s.host.port = .idle → s.host.rdStrobe = false → s.host.wrStrobe = false → bus.rd = !bus.wr →
    (bus.rd = true → ∀ off, s.classify (4 * bus.wordAddr.toNat) ≠ .setup off) →
    exec (.hostAccessArrival bus pins) s = .next (s.noting { s with host :=
      ⟨.waiting ⟨bus.wordAddr ++ 0#2, bus.wr, bus.be, bus.data, s.classify (4 * bus.wordAddr.toNat)⟩, none,
        bus.rd, bus.wr⟩ })

/-- The classes of R2, in a part whose RUNNING arrays keep apart (ChannelLaw): bypass, the setup area, the one RUNNING array
that holds the address, or PLAIN. -/
def Obligations.ClassFollowsTheAddress : Prop :=
  ∀ (s : State) (a : Nat), a < 0x1000000 → ChannelLaw s →
    (s.bypass = true → s.classify a = .plain) ∧
    (s.bypass = false →
      (s.setupBase ≤ a ∧ a ≤ s.setupBase + 0x1FF → s.classify a = .setup (a - s.setupBase)) ∧
      (¬(s.setupBase ≤ a ∧ a ≤ s.setupBase + 0x1FF) →
        (∀ c : ChanId, (s.chan c).state = .running →
          (s.chan c).base.toNat ≤ a → a ≤ (s.chan c).base.toNat + (s.chan c).count.toNat * (s.chan c).size - 1 →
          ∃ k w, k = (a - (s.chan c).base.toNat) / (s.chan c).size ∧ k < (s.chan c).count.toNat ∧
            w = (a - (s.chan c).base.toNat - k * (s.chan c).size) / 4 ∧ w < (s.chan c).size / 4 ∧
            s.classify a = (if w = 0 then .slotHeader c k else .slotPayload c k w)) ∧
        ((∀ c : ChanId, (s.chan c).state = .running →
            ¬((s.chan c).base.toNat ≤ a ∧
              a ≤ (s.chan c).base.toNat + (s.chan c).count.toNat * (s.chan c).size - 1)) →
          s.classify a = .plain)))

/-- A setup read is answered at its arrival, with no request and no HERR; a mirror word's read clears that lane's change-held
flag, and no other read changes anything but the port's answer (R4). -/
def Obligations.SetupReadIsAnsweredAtItsArrival : Prop :=
  ∀ (s : State) (bus : HostBus) (pins : Pins) (off : Nat),
    s.resetn = true → s.host.port = .idle → s.host.rdStrobe = false → s.host.wrStrobe = false →
    bus.rd = true → bus.wr = false → s.classify (4 * bus.wordAddr.toNat) = .setup off →
    let answered : HostSide :=
      ⟨.idle, some ⟨true, false, false, some (s.setupReadWord pins (setupWordAt off))⟩, true, false⟩
    ((∀ n, setupWordAt off ≠ .laneMirror n) →
      exec (.hostAccessArrival bus pins) s = .next { s with host := answered }) ∧
    (∀ n, setupWordAt off = .laneMirror n →
      exec (.hostAccessArrival bus pins) s = .next { s.setLane n { s.lane n with
        mir := { (s.lane n).mir with changeHeld := false } } with host := answered })

/-- Every setup word but the mirror word and the enables reads its fields at the places of the word layouts, unused bits 0
(R22, R23, 11.2 to 11.4): the shadow's words, and the live words of chapters 2, 3 and 5 with their codes (R30, R59, R104). IRQ
is asserted exactly while IRQ_EN is 1 and either occupancy is above 0 or LOST is 1 (R173). -/
def Obligations.StatusWordsHoldTheLiveFields : Prop :=
  ∀ (s : State) (pins : Pins) (n : LaneId) (c : ChanId),
    (∀ w, w = s.setupReadWord pins .deviceControl →
      w.getLsbD 0 = s.dev.active ∧ w.getLsbD 1 = s.dev.irqEn ∧ field w 8 3 = s.dev.ringSize ∧
        field w 16 4 = s.dev.patience ∧ w &&& 0xFFF0F8FC = 0) ∧
    (∀ w, w = s.setupReadWord pins .ringBase → field w 0 24 = s.dev.ringBase ∧ field w 24 8 = (0 : Byte)) ∧
    (∀ w, w = s.setupReadWord pins .consumerIndex → field w 0 16 = s.nu.cons ∧ field w 16 16 = (0 : BitVec 16)) ∧
    (∀ w, w = s.setupReadWord pins .producerIndex → field w 0 16 = s.nu.prod ∧ field w 16 16 = (0 : BitVec 16)) ∧
    (∀ w, w = s.setupReadWord pins .deviceStatus → s.nu.list.length ≤ 8 → (s.nu.prod - s.nu.cons).toNat ≤ 256 →
      w.getLsbD 0 = s.dev.active ∧ w.getLsbD 1 = s.nu.lost ∧ w.getLsbD 2 = s.irq ∧
        (field w 8 4).toNat = s.nu.list.length ∧ (field w 16 9).toNat = (s.nu.prod - s.nu.cons).toNat ∧
        w &&& 0xFE00F0F8 = 0) ∧
    (∀ w, w = s.setupReadWord pins (.laneMode n) →
      field w 0 2 = (match (s.lane n).mode with
        | .mirror => 0#2
        | .send => 1#2
        | .receive => 2#2
        | .duplex => 3#2) ∧
      w.getLsbD 2 = (s.lane n).missNote ∧ field w 8 11 = (s.lane n).dir ∧ field w 19 11 = (s.lane n).watch ∧
        w &&& 0xC00000F8 = 0) ∧
    (∀ w, w = s.setupReadWord pins (.laneTimer n) →
      field w 0 8 = (s.lane n).byteLimit ∧ field w 8 8 = (s.lane n).takeLimit ∧ field w 16 8 = (s.lane n).slotWait ∧
        field w 24 8 = (0 : Byte)) ∧
    (∀ w, w = s.setupReadWord pins (.laneStatus n) →
      (s.lane n).snd.queue.length ≤ 16 → (s.lane n).rcv.rx.length ≤ 16 →
      field w 0 2 = (match (s.lane n).snd.cur with
        | none => 0#2
        | some q => if q.offering then 1#2 else 2#2) ∧
      field w 4 3 = (match (s.lane n).rcv.state with
        | .idle => 0#3
        | .slotWait _ _ => 1#3
        | .filling _ => 2#3
        | .closing _ => 3#3
        | .discarding => 4#3) ∧
      field w 8 2 = (match (s.lane n).turn.turn with
        | .idle => 0#2
        | .out => 1#2
        | .inn => 2#2) ∧
      w.getLsbD 12 = (s.lane n).mir.changeHeld ∧ (field w 16 5).toNat = (s.lane n).snd.queue.length ∧
        (field w 24 5).toNat = (s.lane n).rcv.rx.length ∧ w &&& 0xE0E0EC8C = 0) ∧
    (∀ w, w = s.setupReadWord pins (.chanControl c) →
      w.getLsbD 0 = decide ((s.chan c).state ≠ .off) ∧ w.getLsbD 1 = decide ((s.chan c).dir = .inbound) ∧
        (field w 4 2).toNat = (s.chan c).lane.val ∧ field w 8 4 = (s.chan c).route ∧
        field w 16 2 = (s.chan c).guard ∧ w &&& 0xFFFCF0CC = 0) ∧
    (∀ w, w = s.setupReadWord pins (.chanBase c) → field w 0 24 = (s.chan c).base ∧ field w 24 8 = (0 : Byte)) ∧
    (∀ w, w = s.setupReadWord pins (.chanGeometry c) →
      field w 0 4 = (s.chan c).sizeCode ∧ field w 8 7 = (s.chan c).count ∧ w &&& 0xFFFF80F0 = 0) ∧
    (∀ w, w = s.setupReadWord pins (.chanStall c) →
      field w 0 8 = (s.chan c).stallLimit ∧ field w 8 24 = (0 : BitVec 24)) ∧
    (∀ w, w = s.setupReadWord pins (.chanStatus c) →
      field w 0 2 = (match (s.chan c).state with
        | .off => 0#2
        | .running => 1#2
        | .rejected _ => 2#2) ∧
      (∀ p ∈ [(RunReason.inactive, 1#4), (.guardCode, 2#4), (.geometry, 3#4), (.align, 4#4), (.range, 5#4),
          (.overlapSetup, 6#4), (.overlapRing, 7#4), (.overlapChannel, 8#4), (.laneMode, 9#4), (.routeTaken, 10#4),
          (.stallLimit, 11#4)],
        (s.chan c).state = .rejected p.1 → field w 4 4 = p.2) ∧
      ((s.chan c).state = .off ∨ (s.chan c).state = .running → field w 4 4 = 0#4) ∧
      field w 8 8 = (s.chan c).seqCtr ∧
      ((s.chan c).slots.length ≤ 64 → (field w 16 7).toNat = ((s.chan c).slots.filter fun x =>
        x.state = .committed ∨ x.state = .sending ∨ x.state = .filling).length) ∧ w &&& 0xFF80000C = 0) ∧
    field (s.setupReadWord pins (.chanCounts c)) 0 16 = (s.chan c).done ∧
    field (s.setupReadWord pins (.chanCounts c)) 16 16 = (s.chan c).faults ∧
    s.setupReadWord pins .unused = 0 ∧
    (s.irq = true ↔ s.dev.irqEn = true ∧ (s.nu.prod ≠ s.nu.cons ∨ s.nu.lost = true))

/-- A read of a lane's mirror word is answered at its arrival with the live level of each pin, whatever its byte enables, and
clears the change-held flag (R159). On a line that the part drives and nothing else does, that is the part's own level, by the
lane's mode, its lending and its turn (R86, R87, R91, R94, R96, R103, R156); on every other line it is the outside level. In
bypass the same read is PLAIN and waits (R18). -/
def Obligations.MirrorReadGivesLiveLinesAndClearsTheFlag : Prop :=
  ∀ (s : State) (n : LaneId) (be : Enables) (pins : Pins),
    s.resetn = true → s.host.port = .idle → s.host.rdStrobe = false → s.host.wrStrobe = false →
    (s.bypass = false → ∃ lv : Lines,
      exec (.mirrorWordRead n be pins) s = .next { s.setLane n { s.lane n with
          mir := { (s.lane n).mir with changeHeld := false } } with
        host := ⟨.idle, some ⟨true, false, false, some (lv.setWidth 32)⟩, true, false⟩ } ∧
      ∀ i < 11, lv.getLsbD i = (match s.partLevel n i with
        | some own => if (pins.lane n).contended.getLsbD i then (pins.lane n).level.getLsbD i else own
        | none => (pins.lane n).level.getLsbD i)) ∧
    (s.bypass = true → ∃ a : Addr, a.toNat = s.setupBase + 0x48 + 0x10 * n.val ∧
      exec (.mirrorWordRead n be pins) s = .next (s.noting { s with host :=
        ⟨.waiting ⟨a, false, be, 0, .plain⟩, none, true, false⟩ }))

/-- Both strobes at once are answered with HERR and nothing else happens; a strobe asserted over an access in progress, before
both strobes have been released, starts no arrival (R15, R1). Over an abandoned cycle a strobe of the access's own kind waits
to arrive once the port is in HP_IDLE (R14), with the host's lines of its assertion, which is the model's inference (log entry
10); one of the other kind is only held asserted (R15). -/
def Obligations.BothStrobesAreRefused : Prop :=
  ∀ (s : State) (bus : HostBus) (pins : Pins), s.resetn = true →
    (s.host.port = .idle → s.host.rdStrobe = false → s.host.wrStrobe = false → bus.rd = true → bus.wr = true →
      exec (.hostAccessArrival bus pins) s =
        .next { s with host := ⟨.idle, some ⟨true, true, true, none⟩, true, true⟩ }) ∧
    ((∃ r, s.host.port = .waiting r ∨ s.host.port = .held r ∨
        ∃ cyc : HostCycle, s.host.port = .access r cyc ∧ cyc.abandoned = false) ∨
      (s.host.port = .idle ∧ (s.host.rdStrobe = true ∨ s.host.wrStrobe = true)) →
      exec (.hostAccessArrival bus pins) s = .next { s with host := { s.host with
        rdStrobe := s.host.rdStrobe || bus.rd, wrStrobe := s.host.wrStrobe || bus.wr } }) ∧
    (∀ (r : HostRecord) (cyc : HostCycle), s.host.port = .access r cyc → cyc.abandoned = true →
      exec (.hostAccessArrival bus pins) s = .next { s with host := { s.host with
        port := .access r { cyc with
          again := if cyc.again = none ∧ (if r.write then bus.wr else bus.rd) = true then some bus else cyc.again }
        rdStrobe := s.host.rdStrobe || bus.rd
        wrStrobe := s.host.wrStrobe || bus.wr } })

/-- A PLAIN access, a slot payload read and a slot header read take a memory cycle at their grant and change nothing else;
the header read takes the overlay's snapshot with it (R6, R11). A plain slot write, to a payload word of a slot that is FREE,
FAILED or READY (R71), or to the header of an inbound FREE slot, of an outbound FREE slot with LENGTH 0, or of an outbound FREE
or FAILED slot with a byte of LENGTH not written (R65), is performed: its cycle starts, what the guard held of it ends with its
stall timer (R75, R82), and nothing else changes. -/
def Obligations.HostGrantStartsTheMemoryCycle : Prop :=
  ∀ (s : State) (r : HostRecord) (pins : Pins), HostGranted s r →
    (r.cls = .plain ∨ (r.write = false ∧ ∃ c k w, r.cls = .slotPayload c k w) →
      exec (.hostGrant pins) s = .next (s.withCycle s.granted r HostCycle.bare)) ∧
    (∀ c k, r.cls = .slotHeader c k → r.write = false →
      exec (.hostGrant pins) s = .next (s.withCycle s.granted r ⟨false, false, some ⟨(s.slot c k).state,
        if (s.slot c k).state = .committed ∨ (s.slot c k).state = .sending ∨ (s.slot c k).state = .failed
          then some (s.slot c k).seq else none⟩, none⟩)) ∧
    (r.write = true →
      ((∃ c k w, r.cls = .slotPayload c k w ∧
          ((s.slot c k).state = .free ∨ (s.slot c k).state = .failed ∨ (s.slot c k).state = .ready)) ∨
        (∃ c k, r.cls = .slotHeader c k ∧
          ((s.chan c).dir = .inbound ∧ (s.slot c k).state = .free ∨
            (s.chan c).dir = .outbound ∧ (s.slot c k).state = .free ∧ HeaderWrite r c k 0 ∨
            (s.chan c).dir = .outbound ∧ ((s.slot c k).state = .free ∨ (s.slot c k).state = .failed) ∧
              (r.be.getLsbD 0 = false ∨ r.be.getLsbD 1 = false)))) →
      exec (.hostGrant pins) s = .next ({ s with guard := ⟨none, none⟩ }.withCycle s.granted r HostCycle.bare))

/-- At the completion of its memory cycle the host access ends, with HERR for MERR or for a refused commit under REJECT and,
for a read, the word returned; the port is FREE again (R12, R146). A slot header read carries the overlay's snapshot over the
memory's word: STATE, and SEQ where it has one (R11, R79). An abandoned access drives nothing (R14); a strobe asserted again
over it arrives at this moment, the port in HP_IDLE, with the lines of its assertion (R14, log entry 10), unless a strobe of
the other kind is still asserted (R15). -/
def Obligations.HostCompletionEndsTheAccess : Prop :=
  ∀ (s : State) (r : HostRecord) (cyc : HostCycle) (data : CycleEnd) (merr : Bool), s.host.port = .access r cyc →
    (cyc.abandoned = false → ∃ word : Option Word,
      exec (.hostAccessCompletion data merr) s = .next { s with
        host := { s.host with port := .idle, answer := some ⟨!r.write, r.write, merr || cyc.herr, word⟩ }
        arb := s.freedArb } ∧
      (r.write = true → word = none) ∧
      (r.write = false → ∃ w, word = some w ∧ (cyc.overlay = none → w = data.word) ∧
        ∀ o, cyc.overlay = some o →
          w.extractLsb' 24 3 = o.state.code ∧ w.extractLsb' 16 8 = o.seq.getD (data.word.extractLsb' 16 8) ∧
          w.extractLsb' 0 16 = data.word.extractLsb' 0 16 ∧ w.extractLsb' 27 5 = data.word.extractLsb' 27 5)) ∧
    (cyc.abandoned = true → ∀ t : State,
      t = { s with host := { s.host with port := .idle }, arb := s.freedArb } →
      (cyc.again = none ∨ (if r.write then s.host.rdStrobe else s.host.wrStrobe) = true →
        exec (.hostAccessCompletion data merr) s = .next t) ∧
      (∀ b : HostBus, cyc.again = some b → (if r.write then s.host.rdStrobe else s.host.wrStrobe) = false →
        s.resetn = true →
        ∃ u : State, exec (.hostAccessArrival { b with rd := !r.write, wr := r.write } data.pins)
            { t with host := { t.host with rdStrobe := false, wrStrobe := false } } = .next u ∧
          exec (.hostAccessCompletion data merr) s = .next { u with arb := s.freedArb }))

/-- The host releases a strobe (R1, R14, R15). Of the access in progress: waiting or held, it ends with no memory cycle and
its stall timer stops; in HP_ACCESS its cycle runs on and is marked abandoned, with no strobe waiting to arrive (log entry 10);
no notice and no count comes of it. With no access in progress, EARLY_STROBE_RELEASE is no event (the model's choice, log
entry 4), and the answer is dropped once no strobe of its access is asserted, after both strobes at once no strobe at all (log
entry 26). Over an access, HOST_STROBE_RELEASE releases a strobe of the other kind alone (the model's choice, log entry
24). -/
def Obligations.ReleasedStrobesAbandonOrDropTheAnswer : Prop :=
  ∀ (s : State) (rd wr : Bool),
    (∀ (r : HostRecord) (released : HostSide),
      released = (if r.write then { s.host with wrStrobe := false } else { s.host with rdStrobe := false }) →
      (s.host.port = .waiting r →
        exec .earlyStrobeRelease s = .next (s.noting { s with
          host := { released with port := .idle }, guard := ⟨none, none⟩ })) ∧
      (s.host.port = .held r →
        exec .earlyStrobeRelease s = .next { s with
          host := { released with port := .idle }, guard := ⟨none, none⟩ }) ∧
      (∀ cyc : HostCycle, s.host.port = .access r cyc →
        exec .earlyStrobeRelease s = .next { s with
          host := { released with port := .access r { cyc with abandoned := true, again := none } } })) ∧
    (s.host.port = .idle → exec .earlyStrobeRelease s = .next s ∧
      ∃ t : State, exec (.hostStrobeRelease rd wr) s = .next t ∧
        t = { s with host := t.host } ∧ t.host.port = .idle ∧
        t.host.rdStrobe = (s.host.rdStrobe && !rd) ∧ t.host.wrStrobe = (s.host.wrStrobe && !wr) ∧
        (∀ a, s.host.answer = some a →
          t.host.answer = (if (a.rd = true ∧ t.host.rdStrobe = true) ∨ (a.wr = true ∧ t.host.wrStrobe = true)
            then some a else none)) ∧
        (s.host.answer = none → t.host.answer = none)) ∧
    (∀ r : HostRecord, s.host.answer = none →
      (s.host.port = .waiting r ∨ s.host.port = .held r ∨ ∃ cyc, s.host.port = .access r cyc) →
      exec (.hostStrobeRelease rd wr) s = .next { s with host := { s.host with
        rdStrobe := s.host.rdStrobe && !(rd && r.write), wrStrobe := s.host.wrStrobe && !(wr && !r.write) } })

/-- A command that names the write it is the grant of is the host grant itself, or no event: its effect is that of HOST_GRANT
and depends on no pin (95_what_each_step_holds.md; the model's choice, log entries 4 and 5). -/
def Obligations.ANamedGrantIsTheHostGrant : Prop :=
  ∀ (s : State) (pins : Pins),
    ∀ c ∈ [Instr.activeSet, .activeClear, .irqEnAndPatienceWrite, .ringSizeChange, .ringBaseWrite, .consumerIndexWrite,
      .lostClear, .laneMasksWrite, .laneTimerWrite, .mirrorWordWrite, .runRequest, .channelStop, .channelBindingWrite,
      .guardChange, .arrayGeometryWrite, .stallLimitWrite, .enableSet, .enableClear, .ignoredSetupWrite, .commit,
      .withdraw, .recommit, .failedSlotFree, .release, .restart pins, .laneModeChange pins],
      exec c s = .next s ∨ exec c s = exec (.hostGrant pins) s

/-! ### The device block -/

/-- A control write that neither restarts the part, nor takes ACTIVE to 0, nor presents another RING_SIZE takes ACTIVE, IRQ_EN
and PATIENCE from its written bytes and changes nothing else (R25, R26, R28); the counter of the arbiter's patience is not
cleared (R154). A write that enables neither byte 0 nor byte 2 changes nothing. -/
def Obligations.ControlWriteTakesItsFields : Prop :=
  ∀ (s : State) (r : HostRecord), HostGranted s r → ControlWrite r →
    ¬(s.dev.active = true ∧ writtenBit r 0 s.dev.active = false) →
    writtenField r 1 8 s.dev.ringSize = s.dev.ringSize →
    (s.dev.active = false → writtenBit r 0 s.dev.active = true →
      exec .activeSet s = .next ({ s with dev := s.dev.written r }.withCycle s.granted r HostCycle.bare)) ∧
    (r.be.getLsbD 0 = true ∨ r.be.getLsbD 2 = true →
      exec .irqEnAndPatienceWrite s =
        .next ({ s with dev := s.dev.written r }.withCycle s.granted r HostCycle.bare)) ∧
    (r.be.getLsbD 0 = false → r.be.getLsbD 2 = false → ∀ pins,
      exec (.hostGrant pins) s = .next (s.withCycle s.granted r HostCycle.bare))

/-- ACTIVE passing to 0 stops every RUNNING channel at this one grant, with its counts and binding kept (R27, R48); every
send queue entry goes, a record being sent is abandoned with an abort strobe, and a record being received is given up
(R49, R50). With nothing buffered and RING_SIZE unchanged no notice is generated (R27). A RING_SIZE of the same write is
checked after the stop, against no array (R25). -/
def Obligations.ActiveClearStopsEveryChannel : Prop :=
  ∀ (s : State) (r : HostRecord), Inv s → HostGranted s r → ControlWrite r →
    s.dev.active = true → writtenBit r 0 s.dev.active = false →
    ∃ t, exec .activeClear s = .next t ∧
      t.host.port = .access r HostCycle.bare ∧ t.portOwner = some .host ∧
      t.dev.active = false ∧ t.dev.irqEn = writtenBit r 1 s.dev.irqEn ∧
      t.dev.patience = writtenField r 2 16 s.dev.patience ∧
      (∀ c, t.chan c = (if (s.chan c).state = .running then { s.chan c with state := .off, slots := [] }
        else s.chan c)) ∧
      (∀ n, (s.lane n).snd.cur = none → (t.lane n).snd = { (s.lane n).snd with queue := [] }) ∧
      (∀ n, (s.lane n).snd.cur ≠ none → (t.lane n).snd = { (s.lane n).snd with
        queue := [], cur := none, tx := [], mover := .none, takeTimer := none, strobe := some (s.now + 1),
        takePulse := (s.lane n).snd.takePulse.map fun _ => false }) ∧
      (∀ n, ((t.lane n).rcv.state = .idle ∨ (t.lane n).rcv.state = .discarding) ∧ (t.lane n).rcv.gather = [] ∧
        (t.lane n).rcv.mover = .none ∧ (t.lane n).rcv.rx = []) ∧
      ((∀ n, (s.lane n).rcv.rx = []) → writtenField r 1 8 s.dev.ringSize = s.dev.ringSize → t.nu = s.nu) ∧
      (∀ size, size = writtenField r 1 8 s.dev.ringSize → size ≠ s.dev.ringSize → size ≠ 7 →
        s.nu.prod = s.nu.cons →
        (size ≠ 0 → (ringExtent s.dev.ringBase size).stop ≤ 0x1000000 ∧
          (ringExtent s.dev.ringBase size).overlaps s.setupExtent = false) →
        t.dev.ringSize = size)

/-- A ring change is checked at its grant (R29, R172). Allowed, it sets the base or RING_SIZE and both indices, keeps the
pending notices, and starts the head one again from word 0 in the new ring; a base write that presents the shadow's base
changes nothing. Refused with RING_BUSY (14) or RING_PLACE (15), code 7 whatever the occupancy, it leaves the base, RING_SIZE,
the indices, the list and the writer, and is reported with SOURCE FFh. The other fields of a control write stand (R25). -/
def Obligations.RingChangeIsCheckedInOrder : Prop :=
  ∀ (s : State) (r : HostRecord) (reason : BitVec 16), HostGranted s r →
    (SetupWrite r .ringBase →
      (s.writtenBase r = s.dev.ringBase →
        exec .ringBaseWrite s = .next (s.withCycle s.granted r HostCycle.bare)) ∧
      (s.writtenBase r ≠ s.dev.ringBase → s.dev.ringSize ≠ 7 → s.nu.prod = s.nu.cons →
        (s.dev.ringSize ≠ 0 → RingFits s (s.writtenBase r) s.dev.ringSize) →
        exec .ringBaseWrite s = .next ({ s with
          dev := { s.dev with ringBase := s.writtenBase r }
          nu := s.nu.moved s.dev.ringSize }.withCycle s.granted r HostCycle.bare)) ∧
      (s.writtenBase r ≠ s.dev.ringBase → s.dev.ringSize ≠ 7 →
        (reason = 14 ∧ s.nu.prod ≠ s.nu.cons ∨
          reason = 15 ∧ s.nu.prod = s.nu.cons ∧ s.dev.ringSize ≠ 0 ∧
            ¬RingFits s (s.writtenBase r) s.dev.ringSize) →
        exec .ringBaseWrite s = .next ({ s with
          nu := s.reported true .setupRejected 0xFF 0xFF 0 reason }.withCycle
            s.granted r HostCycle.bare))) ∧
    (∀ size, ControlWrite r → size = writtenField r 1 8 s.dev.ringSize → size ≠ s.dev.ringSize →
      ¬(s.dev.active = true ∧ writtenBit r 0 s.dev.active = false) →
      (size ≠ 7 → s.nu.prod = s.nu.cons → (size ≠ 0 → RingFits s s.dev.ringBase size) →
        exec .ringSizeChange s = .next ({ s with
          dev := { s.dev.written r with ringSize := size }
          nu := s.nu.moved size }.withCycle s.granted r HostCycle.bare)) ∧
      ((reason = 15 ∧ size = 7 ∨ reason = 14 ∧ size ≠ 7 ∧ s.nu.prod ≠ s.nu.cons ∨
          reason = 15 ∧ size ≠ 7 ∧ s.nu.prod = s.nu.cons ∧ size ≠ 0 ∧ ¬RingFits s s.dev.ringBase size) →
        exec .ringSizeChange s = .next ({ s with
          dev := s.dev.written r
          nu := s.reported true .setupRejected 0xFF 0xFF 0 reason }.withCycle
            s.granted r HostCycle.bare)))

/-- A consumer index is accepted exactly when it does not raise occupancy, and an idle writer that then has room starts the
head notice; another value is ignored (R170). -/
def Obligations.ConsumerIndexIsAcceptedUpToTheProducer : Prop :=
  ∀ (s : State) (r : HostRecord) (c : BitVec 16), HostGranted s r → SetupWrite r .consumerIndex →
    (∀ i < 16, c.getLsbD i = (if r.be.getLsbD (i / 8) then r.data.getLsbD i else s.nu.cons.getLsbD i)) →
    ((s.nu.prod - c).toNat ≤ (s.nu.prod - s.nu.cons).toNat →
      exec .consumerIndexWrite s = .next ({ s with nu := { s.nu with
          cons := c
          writer := if s.nu.writer = WriterState.idle ∧ s.nu.list ≠ [] ∧
              (s.nu.prod - c).toNat < ringRecords s.dev.ringSize then WriterState.word0Waiting
            else s.nu.writer } }.withCycle s.granted r HostCycle.bare)) ∧
    ((s.nu.prod - s.nu.cons).toNat < (s.nu.prod - c).toNat →
      exec .consumerIndexWrite s = .next (s.withCycle s.granted r HostCycle.bare))

/-- A device status write with LOST presented as 1 clears LOST; without it, and to every live word and unused offset, a write
changes nothing but its memory cycle (R21, R22, R31). -/
def Obligations.LostIsClearedAndLiveWordsIgnoreWrites : Prop :=
  ∀ (s : State) (r : HostRecord), HostGranted s r →
    (SetupWrite r .deviceStatus → r.be.getLsbD 0 = true → r.data.getLsbD 1 = true →
      exec .lostClear s =
        .next ({ s with nu := { s.nu with lost := false } }.withCycle s.granted r HostCycle.bare)) ∧
    ((SetupWrite r .deviceStatus ∧ (r.be.getLsbD 0 = false ∨ r.data.getLsbD 1 = false)) ∨
      SetupWrite r .producerIndex ∨ SetupWrite r .unused ∨ (∃ n, SetupWrite r (.laneStatus n)) ∨
      (∃ c, SetupWrite r (.chanStatus c) ∨ SetupWrite r (.chanCounts c)) →
      exec .ignoredSetupWrite s = .next (s.withCycle s.granted r HostCycle.bare))

/-! ### Lanes' setup -/

/-- A mode change is checked at its grant (R88). Refused with LANE_BOUND (12), or with LANE_PARTNER (13) where no RUNNING
channel is bound to the lane, it leaves the whole mode word and the lane as they were. Accepted, it resets both sides of the
lane, its turn, its latch and its flag, takes MODE, MISS_NOTE, DIR and WATCH and keeps the timer word (R89); the sampled
levels are the lines in the new mode (R155). The lines of the lane that the switch released are compared at the next watch
sample (R162); every other line that became an input or became watched, on this lane and its partner, is left out of it (R160,
log entry 14); a lent C0 or C2 that was an input already is not (the model's choice, log entry 27). A DUPLEX lane whose WANT
is asserted is granted T_IN at once (R100, R102). -/
def Obligations.ModeChangeIsCheckedAndResetsTheLane : Prop :=
  ∀ (s : State) (r : HostRecord) (pins : Pins) (n : LaneId) (m : LaneMode),
    HostGranted s r → SetupWrite r (.laneMode n) →
    m.code = field (s.modeWritten n r) 0 2 → m ≠ (s.lane n).mode →
    (∀ reason : BitVec 16, (reason = 12 ∧ LaneBound s n ∨ reason = 13 ∧ ¬LaneBound s n ∧ PartnerRefuses s n m) →
      exec (.laneModeChange pins) s = .next ({ s with
        nu := s.reported true .setupRejected (BitVec.ofNat 8 (0x10 + n.val)) 0xFF 0 reason }.withCycle
          s.granted r HostCycle.bare)) ∧
    (¬LaneBound s n → ¬PartnerRefuses s n m →
      ∃ t : State, exec (.laneModeChange pins) s = .next t ∧
        t = { s with lanes := t.lanes }.withCycle s.granted r HostCycle.bare ∧
        (∀ k, k ≠ n → t.lane k = { s.lane k with mir := { (s.lane k).mir with
          fresh := (s.lane k).mir.fresh ||| (t.inputs k &&& ~~~(s.inputs k)) } }) ∧
        ∀ want released, want = (m == .duplex && (pins.lane (mate n)).level.getLsbD 10) →
          released = t.inputs n &&& ~~~(s.inputs n) →
          t.lane n = { s.lane n with
            mode := m
            missNote := (s.modeWritten n r).getLsbD 2
            dir := field (s.modeWritten n r) 8 11
            watch := field (s.modeWritten n r) 19 11
            snd := SendSide.reset
            rcv := { RecvSide.reset with
              byteTimer := if want then deadline s.now (s.lane n).byteLimit else none }
            turn := { TurnState.reset with turn := if want then Turn.inn else Turn.idle, want := want }
            mir :=
              { latch := 0
                changeHeld := false
                sampled := t.liveLines pins n
                prevInput := (s.lane n).mir.prevInput ||| released
                fresh := ((s.lane n).mir.fresh ||| (field (s.modeWritten n r) 19 11 &&& ~~~((s.lane n).watch))) &&&
                  ~~~released } })

/-- A mode word write that leaves MODE unchanged takes MISS_NOTE, DIR and WATCH, and leaves the lines that became inputs or
watched out of the next watch sample; latch and flag stay (R88, R158, R160). -/
def Obligations.MasksAreTakenWithModeUnchanged : Prop :=
  ∀ (s : State) (r : HostRecord) (n : LaneId), HostGranted s r → SetupWrite r (.laneMode n) →
    (s.lane n).mode.code = field (s.modeWritten n r) 0 2 →
    ∃ t : State, exec .laneMasksWrite s = .next t ∧
      t = (s.setLane n { s.lane n with
        missNote := (s.modeWritten n r).getLsbD 2
        dir := field (s.modeWritten n r) 8 11
        watch := field (s.modeWritten n r) 19 11
        mir := { (s.lane n).mir with
          fresh := (s.lane n).mir.fresh ||| (t.inputs n &&& ~~~(s.inputs n)) |||
            (field (s.modeWritten n r) 19 11 &&& ~~~((s.lane n).watch)) } }).withCycle
        s.granted r HostCycle.bare

/-- The lane timer word, a channel's stall limit and the mirror latch take the written bytes in every state, and nothing else
changes: a timer that runs keeps its deadline (R43, R90, R157). -/
def Obligations.LimitAndLatchWritesTakeTheirBytes : Prop :=
  ∀ (s : State) (r : HostRecord) (n : LaneId) (c : ChanId), HostGranted s r →
    (SetupWrite r (.laneTimer n) →
      exec .laneTimerWrite s = .next ((s.setLane n { s.lane n with
        byteLimit := writtenField r 0 0 (s.lane n).byteLimit
        takeLimit := writtenField r 1 8 (s.lane n).takeLimit
        slotWait := writtenField r 2 16 (s.lane n).slotWait }).withCycle s.granted r HostCycle.bare)) ∧
    (SetupWrite r (.chanStall c) →
      exec .stallLimitWrite s = .next ((s.setChan c { s.chan c with
        stallLimit := writtenField r 0 0 (s.chan c).stallLimit }).withCycle s.granted r HostCycle.bare)) ∧
    (SetupWrite r (.laneMirror n) → ∃ latch : Lines,
      (∀ i < 11, latch.getLsbD i = writtenBit r i ((s.lane n).mir.latch.getLsbD i)) ∧
      exec .mirrorWordWrite s = .next ((s.setLane n { s.lane n with
        mir := { (s.lane n).mir with latch := latch } }).withCycle s.granted r HostCycle.bare))

/-! ### Channels -/

/-- A run request is validated against the record that its own write leaves, in the order of R44's checks: with none failing
the channel is RUNNING with every slot FREE and its counters 0 (R46); else it is REJECTED with the first failing check's
code, reported with SETUP_REJECTED whatever its enables (R47). -/
def Obligations.RunRequestIsValidatedInOrder : Prop :=
  ∀ (s : State) (r : HostRecord) (c : ChanId), HostGranted s r → SetupWrite r (.chanControl c) →
    (s.chan c).state ≠ .running → r.be.getLsbD 0 = true → r.data.getLsbD 0 = true →
    (s.firstFailure c ((s.chan c).bound r) = none →
      exec .runRequest s = .next ((s.setChan c { (s.chan c).bound r with
        state := .running, seqCtr := 0, fillPtr := 0, done := 0, faults := 0,
        slots := List.replicate (s.chan c).count.toNat ⟨.free, 0, 0⟩ }).withCycle
          s.granted r HostCycle.bare)) ∧
    (∀ why, s.firstFailure c ((s.chan c).bound r) = some why →
      exec .runRequest s = .next ({ s.setChan c { (s.chan c).bound r with state := .rejected why } with
        nu := s.reported true .setupRejected (BitVec.ofNat 8 c.val) 0xFF 0 (why.code.setWidth 16) }.withCycle
          s.granted r HostCycle.bare))

/-- The stop of an OUT channel (R48, R49, R121): OFF with everything kept but its slots; its entries leave the lane's queue in
order; its record in progress is abandoned with the abort strobe; a written GUARD is taken (R41). Nothing else changes. -/
def Obligations.OutboundChannelIsStopped : Prop :=
  ∀ (s : State) (r : HostRecord) (c : ChanId), Inv s → HostGranted s r → SetupWrite r (.chanControl c) →
    (s.chan c).state = .running → (s.chan c).dir = .outbound → r.be.getLsbD 0 = true → r.data.getLsbD 0 = false →
    let x := (s.lane (s.chan c).lane).snd
    let kept := x.queue.filter fun e => e.chan != c
    let t := s.setChan c { s.chan c with
      state := .off, slots := [], guard := writtenField r 2 16 (s.chan c).guard }
    ((∀ q ∈ x.cur, q.chan ≠ c) →
      exec .channelStop s = .next ((t.setSnd (s.chan c).lane { x with queue := kept }).withCycle
        s.granted r HostCycle.bare)) ∧
    (∀ q ∈ x.cur, q.chan = c →
      exec .channelStop s = .next ((t.setSnd (s.chan c).lane { x with
        queue := kept, cur := none, tx := [], mover := .none, takeTimer := none, strobe := some (s.now + 1),
        takePulse := x.takePulse.map fun _ => false }).withCycle s.granted r HostCycle.bare))

/-- The stop of an IN channel (R48, R50, R142): OFF with everything kept but its slots; the record that its lane works on for
it is given up without a notice or a count, and the side then consumes what it can (R125); the other lanes and the setup of
the other channels stay. -/
def Obligations.InboundChannelIsStopped : Prop :=
  ∀ (s : State) (r : HostRecord) (c : ChanId), Inv s → HostGranted s r → SetupWrite r (.chanControl c) →
    (s.chan c).state = .running → (s.chan c).dir = .inbound → r.be.getLsbD 0 = true → r.data.getLsbD 0 = false →
    let n := (s.chan c).lane
    let x := (s.lane n).rcv
    let off : Channel := { s.chan c with state := .off, slots := [], guard := writtenField r 2 16 (s.chan c).guard }
    (∃ t : State, exec .channelStop s = .next t ∧ t.chan c = off ∧ t.dev = s.dev ∧
      (∀ k, k ≠ n → t.lane k = s.lane k) ∧ (t.lane n).snd = (s.lane n).snd ∧
      (∀ d, d ≠ c → (t.chan d).state = (s.chan d).state ∧ (t.chan d).lane = (s.chan d).lane ∧
        (t.chan d).enables = (s.chan d).enables ∧ ((s.chan d).lane ≠ n → t.chan d = s.chan d))) ∧
    ((∀ q, x.state ≠ .filling q ∨ q.chan ≠ c) → (∀ q, x.state ≠ .closing q ∨ q.chan ≠ c) →
      (∀ e, x.state ≠ .slotWait c e) →
      exec .channelStop s = .next ((s.setChan c off).withCycle s.granted r HostCycle.bare)) ∧
    (∀ q, x.state = .filling q → q.chan = c →
      exec .channelStop s = .next ((((s.setChan c off).setRcv n { x with
        gather := [], mover := .none, state := .discarding }).drain n).withCycle s.granted r HostCycle.bare)) ∧
    (∀ q, x.state = .closing q → q.chan = c →
      exec .channelStop s = .next ((((s.setChan c off).setRcv n { x with
        gather := [], mover := .none, state := .idle }).drain n).withCycle s.granted r HostCycle.bare)) ∧
    (∀ ended, x.state = .slotWait c ended →
      exec .channelStop s = .next ((((s.setChan c off).setRcv n { x with
        slotWaitTimer := none, state := if ended then .idle else .discarding }).drain n).withCycle
          s.granted r HostCycle.bare))

/-- A control write with no run request to a channel that is OFF or REJECTED takes the binding fields, and RUN = 0 makes it
OFF (R39, R40). A control write to a RUNNING channel that does not clear RUN takes at most GUARD: 0, 1, or 2 with STALL_LIMIT
above 0 (R41). Nothing else changes. -/
def Obligations.ControlWritesTakeBindingOrGuard : Prop :=
  ∀ (s : State) (r : HostRecord) (c : ChanId), HostGranted s r → SetupWrite r (.chanControl c) →
    ((s.chan c).state ≠ .running → r.be.getLsbD 0 = false →
      exec .channelBindingWrite s =
        .next ((s.setChan c ((s.chan c).bound r)).withCycle s.granted r HostCycle.bare)) ∧
    ((s.chan c).state ≠ .running → r.be.getLsbD 0 = true → r.data.getLsbD 0 = false →
      exec .channelBindingWrite s =
        .next ((s.setChan c { (s.chan c).bound r with state := .off }).withCycle
          s.granted r HostCycle.bare)) ∧
    (∀ g, g = r.data.extractLsb' 16 2 → (s.chan c).state = .running →
      (r.be.getLsbD 0 = false ∨ r.data.getLsbD 0 = true) →
      exec .guardChange s = .next ((s.setChan c { s.chan c with
        guard := if r.be.getLsbD 2 = true ∧ (g = 0 ∨ g = 1 ∨ (g = 2 ∧ (s.chan c).stallLimit ≠ 0)) then g
          else (s.chan c).guard }).withCycle s.granted r HostCycle.bare))

/-- The array base and geometry words are applied to a channel that is OFF or REJECTED, which keeps its state, and ignored by
one that is RUNNING (R42). -/
def Obligations.GeometryWritesNeedAStoppedChannel : Prop :=
  ∀ (s : State) (r : HostRecord) (c : ChanId), HostGranted s r →
    ((s.chan c).state ≠ .running → SetupWrite r (.chanBase c) → ∃ base : Addr,
      (∀ i < 24, base.getLsbD i = writtenBit r i ((s.chan c).base.getLsbD i)) ∧
      exec .arrayGeometryWrite s =
        .next ((s.setChan c { s.chan c with base := base }).withCycle s.granted r HostCycle.bare)) ∧
    ((s.chan c).state ≠ .running → SetupWrite r (.chanGeometry c) →
      exec .arrayGeometryWrite s = .next ((s.setChan c { s.chan c with
        sizeCode := writtenField r 0 0 (s.chan c).sizeCode
        count := writtenField r 1 8 (s.chan c).count }).withCycle s.granted r HostCycle.bare)) ∧
    ((s.chan c).state = .running → SetupWrite r (.chanBase c) ∨ SetupWrite r (.chanGeometry c) →
      exec .arrayGeometryWrite s = .next (s.withCycle s.granted r HostCycle.bare))

/-- The enable set word sets, and the enable clear word clears, the enables presented as 1 in a written byte, in every channel
state; both words read the six enables; a run acceptance and a stop keep them, and either reset clears them (R52). -/
def Obligations.EnableWritesSetAndClear : Prop :=
  ∀ (s : State) (r : HostRecord) (c : ChanId) (pins : Pins),
    (HostGranted s r → SetupWrite r (.enableSet c) → ∃ e : NotifyEnables,
      (∀ i < 6, e.getLsbD i =
        ((s.chan c).enables.getLsbD i || (r.be.getLsbD 0 && r.data.getLsbD i))) ∧
      exec .enableSet s =
        .next ((s.setChan c { s.chan c with enables := e }).withCycle s.granted r HostCycle.bare)) ∧
    (HostGranted s r → SetupWrite r (.enableClear c) → ∃ e : NotifyEnables,
      (∀ i < 6, e.getLsbD i =
        ((s.chan c).enables.getLsbD i && !(r.be.getLsbD 0 && r.data.getLsbD i))) ∧
      exec .enableClear s =
        .next ((s.setChan c { s.chan c with enables := e }).withCycle s.granted r HostCycle.bare)) ∧
    s.setupReadWord pins (.enableSet c) = (s.chan c).enables.setWidth 32 ∧
    s.setupReadWord pins (.enableClear c) = (s.chan c).enables.setWidth 32 ∧
    (∀ i t, (i = .runRequest ∨ i = .channelStop ∨ i = .activeClear) → exec i s = .next t →
      (t.chan c).enables = (s.chan c).enables) ∧
    (∀ i t, (∃ a b, i = .hardwareReset a b) → exec i s = .next t → (t.chan c).enables = 0) ∧
    (∀ t, HostGranted s r → SetupWrite r .deviceControl → r.be.getLsbD 0 = true → r.data.getLsbD 7 = true →
      exec (.restart pins) s = .next t → (t.chan c).enables = 0)

/-! ### Slots and the guard -/

/-- A commit, from FREE, and a recommit, from FAILED, with an entry of the lane's queue free: the slot is COMMITTED with the
written LENGTH and the next sequence number, its entry joins the tail of the queue, and the write is performed (R54, R66,
R69, R107). Here the lane has a reason to wait: a record or a strobe in progress, or on a DUPLEX lane a turn granted or
entries queued before. -/
def Obligations.CommitJoinsTheQueue : Prop :=
  ∀ (s : State) (r : HostRecord) (c : ChanId) (k len : Nat), HostGranted s r → HeaderWrite r c k len →
    (s.chan c).dir = .outbound → 1 ≤ len → len ≤ (s.chan c).capacity →
    (s.lane (s.chan c).lane).snd.queue.length < 16 →
    ((s.lane (s.chan c).lane).mode = .send ∧
        ((s.lane (s.chan c).lane).snd.cur ≠ none ∨ (s.lane (s.chan c).lane).snd.strobe ≠ none) ∨
      (s.lane (s.chan c).lane).mode = .duplex ∧
        ((s.lane (s.chan c).lane).turn.turn ≠ .idle ∨ (s.lane (s.chan c).lane).snd.queue ≠ [])) →
    let t := { (s.setChan c { s.chan c with
        seqCtr := (s.chan c).seqCtr + 1
        slots := (s.chan c).slots.set k ⟨.committed, len, (s.chan c).seqCtr⟩ }).setSnd (s.chan c).lane
          { (s.lane (s.chan c).lane).snd with queue := (s.lane (s.chan c).lane).snd.queue ++ [⟨c, k⟩] } with
      guard := ⟨none, none⟩ }
    ((s.slot c k).state = .free →
      exec .commit s = .next (t.withCycle s.granted r HostCycle.bare)) ∧
    ((s.slot c k).state = .failed →
      exec .recommit s = .next (t.withCycle s.granted r HostCycle.bare))

/-- A commit or recommit to a lane that can start at once (R107, R109, R110): on an idle SEND lane with an empty queue the new
entry starts at the same grant; on a DUPLEX lane at rest the turn arbiter decides, and grants T_OUT with the start unless
WANT is asserted and the last direction is OUT, when it grants T_IN and the entry waits (R100). -/
def Obligations.CommitStartsAnIdleLane : Prop :=
  ∀ (s : State) (r : HostRecord) (c : ChanId) (k len : Nat) (n : LaneId), HostGranted s r → HeaderWrite r c k len →
    (s.chan c).dir = .outbound → 1 ≤ len → len ≤ (s.chan c).capacity → k < (s.chan c).slots.length →
    n = (s.chan c).lane → (s.lane n).snd.queue = [] → (s.lane n).snd.cur = none → (s.lane n).snd.strobe = none →
    let q : QueueEntry := ⟨c, k⟩
    let t := { s.setChan c { s.chan c with
        seqCtr := (s.chan c).seqCtr + 1
        slots := (s.chan c).slots.set k ⟨.committed, len, (s.chan c).seqCtr⟩ } with guard := ⟨none, none⟩ }
    ∀ i, (i = .commit ∧ (s.slot c k).state = .free ∨ i = .recommit ∧ (s.slot c k).state = .failed) →
      ((s.lane n).mode = .send →
        exec i s = .next ((t.started n q []).withCycle s.granted r HostCycle.bare)) ∧
      ((s.lane n).mode = .duplex → (s.lane n).turn.turn = .idle →
        ¬((s.lane n).turn.want = true ∧ (s.lane n).turn.last = .outbound) →
        exec i s = .next ((t.takesOut n q []).withCycle s.granted r HostCycle.bare)) ∧
      ((s.lane n).mode = .duplex → (s.lane n).turn.turn = .idle →
        (s.lane n).turn.want = true → (s.lane n).turn.last = .outbound →
        exec i s = .next (((t.setSnd n { (s.lane n).snd with queue := [q] }).takesIn n).withCycle
          s.granted r HostCycle.bare))

/-- A header write with LENGTH above the capacity to an outbound FREE or FAILED slot is performed under every policy, and
refused as a commit: the slot, the queue and the sequence counter stay, FAULTS counts it, COMMIT_REFUSED carries LENGTH (1)
and SEQ 0, and under REJECT HERR is due at the completion (R67, R81). -/
def Obligations.TooLongACommitIsRefused : Prop :=
  ∀ (s : State) (r : HostRecord) (c : ChanId) (k len : Nat), HostGranted s r → HeaderWrite r c k len →
    (s.chan c).dir = .outbound → (s.chan c).capacity < len →
    let t := { s.setChan c { s.chan c with faults := (s.chan c).faults + 1 } with
      guard := ⟨none, none⟩
      nu := s.reported ((s.chan c).enables.getLsbD 5) .commitRefused (BitVec.ofNat 8 c.val) (BitVec.ofNat 8 k) 0 1 }
    let cyc : HostCycle := ⟨false, (s.chan c).guard == 1, none, none⟩
    ((s.slot c k).state = .free → exec .commit s = .next (t.withCycle s.granted r cyc)) ∧
    ((s.slot c k).state = .failed → exec .recommit s = .next (t.withCycle s.granted r cyc)) ∧
    (∀ u data merr, (s.chan c).guard = 1 → (s.slot c k).state = .free ∨ (s.slot c k).state = .failed →
      exec (.hostAccessCompletion data merr) (t.withCycle s.granted r cyc) = .next u → u.herr = true)

/-- A commit that finds the lane's send queue full takes no number and no entry (R77): under DISCARD and REJECT it is performed
and reported as QUEUE_FULL (2), with HERR due under REJECT; under STALL it is held with reason QUEUE, the stall timer
started if this is its first holding (R74), and run out at once where STALL_LIMIT is 0 (R43). -/
def Obligations.CommitIntoAFullQueue : Prop :=
  ∀ (s : State) (r : HostRecord) (c : ChanId) (k len : Nat) (i : Instr), HostGranted s r → HeaderWrite r c k len →
    (s.chan c).dir = .outbound → 1 ≤ len → len ≤ (s.chan c).capacity →
    (s.lane (s.chan c).lane).snd.queue.length = 16 →
    (i = .commit ∧ (s.slot c k).state = .free ∨ i = .recommit ∧ (s.slot c k).state = .failed) →
    ((s.chan c).guard = 0 ∨ (s.chan c).guard = 1 →
      exec i s = .next ({ s.setChan c { s.chan c with faults := (s.chan c).faults + 1 } with
        guard := ⟨none, none⟩
        nu := s.reported ((s.chan c).enables.getLsbD 5) .commitRefused (BitVec.ofNat 8 c.val) (BitVec.ofNat 8 k) 0 2
        }.withCycle s.granted r ⟨false, (s.chan c).guard == 1, none, none⟩)) ∧
    ((s.chan c).guard = 2 → s.guard.held = none → (s.chan c).stallLimit ≠ 0 →
      exec i s = .next { s with
        host := { s.host with port := .held r }
        arb := s.granted.arb
        freeCount := s.granted.freeCount
        guard := ⟨some ⟨c, k, 0, .queue⟩, some (s.now + 4 * (s.chan c).stallLimit.toNat)⟩ }) ∧
    ((s.chan c).guard = 2 → s.guard.held ≠ none →
      exec i s = .next { s with
        host := { s.host with port := .held r }
        arb := s.granted.arb
        freeCount := s.granted.freeCount
        guard := ⟨some ⟨c, k, 0, .queue⟩, s.guard.stallTimer⟩ }) ∧
    ((s.chan c).guard = 2 → s.guard.held = none → (s.chan c).stallLimit = 0 →
      exec i s = .next ({ s.setChan c { s.chan c with faults := (s.chan c).faults + 1 } with
        guard := ⟨none, none⟩
        nu := s.reported ((s.chan c).enables.getLsbD 5) .commitRefused (BitVec.ofNat 8 c.val) (BitVec.ofNat 8 k) 0 2
        }.withoutCycle s.granted r true))

/-- A header write of LENGTH 0 withdraws a COMMITTED slot, its one entry leaving the queue with the others in order, and gives
up a FAILED one; both are performed, with no notice and no count, and the sequence number is not returned (R68, R69). -/
def Obligations.ZeroLengthWithdrawsOrGivesUp : Prop :=
  ∀ (s : State) (r : HostRecord) (c : ChanId) (k : Nat), HostGranted s r → HeaderWrite r c k 0 →
    (s.chan c).dir = .outbound →
    ((s.slot c k).state = .committed →
      exec .withdraw s = .next ({ (s.setSlot c k ⟨.free, 0, 0⟩).setSnd (s.chan c).lane
        { (s.lane (s.chan c).lane).snd with
          queue := (s.lane (s.chan c).lane).snd.queue.filter fun e => e ≠ QueueEntry.mk c k } with
        guard := ⟨none, none⟩ }.withCycle s.granted r HostCycle.bare)) ∧
    ((s.slot c k).state = .failed →
      exec .failedSlotFree s = .next ({ s.setSlot c k ⟨.free, 0, 0⟩ with
        guard := ⟨none, none⟩ }.withCycle s.granted r HostCycle.bare))

/-- Any header write to a READY slot releases it: FREE, with length and number 0, and the write performed (R70). If the lane
waits for a slot of the channel, the search from the fill pointer picks one at the same grant, and the record is filled, or
closed if it has ended, and the side consumes what it can; nothing else happens (R125, R129, R131, R135). -/
def Obligations.ReleaseFreesTheSlot : Prop :=
  ∀ (s : State) (r : HostRecord) (c : ChanId) (k : Nat), HostGranted s r → r.cls = .slotHeader c k → r.write = true →
    (s.chan c).dir = .inbound → (s.slot c k).state = .ready →
    let n := (s.chan c).lane
    let x := (s.lane n).rcv
    ((∀ ended, x.state ≠ .slotWait c ended) →
      exec .release s = .next ({ s.setSlot c k ⟨.free, 0, 0⟩ with guard := ⟨none, none⟩ }.withCycle
        s.granted r HostCycle.bare)) ∧
    (∀ ended, x.state = .slotWait c ended → k < (s.chan c).count.toNat →
      (s.chan c).slots.length = (s.chan c).count.toNat → (s.chan c).fillPtr < (s.chan c).count.toNat →
      (∀ j < (s.chan c).count.toNat, (s.slot c j).state ≠ .free) →
      exec .release s = .next ({ ((s.setChan c { s.chan c with
          slots := (s.chan c).slots.set k ⟨.filling, 0, 0⟩
          fillPtr := (k + 1) % (s.chan c).count.toNat }).setRcv n { x with
            gather := []
            slotWaitTimer := none
            state := if ended then RecvState.closing ⟨c, k, false⟩ else RecvState.filling ⟨c, k, false⟩
            mover := if ended = true ∧ x.mover = Mover.none then Mover.waiting else x.mover }).drain n with
        guard := ⟨none, none⟩ }.withCycle s.granted r HostCycle.bare))

/-- Under DISCARD a guarded write is discarded at its grant: no memory cycle, no HERR, the slot and its queue as they were;
FAULTS counts it, and GUARD_DISCARD carries the word offset and the cause POLICY (1) (R72, R80). -/
def Obligations.GuardedWriteIsDiscarded : Prop :=
  ∀ (s : State) (r : HostRecord) (pins : Pins) (c : ChanId) (k w : Nat), HostGranted s r → GuardedWrite s r c k w →
    (s.chan c).guard = 0 → w < 1024 →
    exec (.hostGrant pins) s = .next ({ s.setChan c { s.chan c with faults := (s.chan c).faults + 1 } with
      guard := ⟨none, none⟩
      nu := s.reported ((s.chan c).enables.getLsbD 4) .guardDiscard (BitVec.ofNat 8 c.val) (BitVec.ofNat 8 k)
        (s.slot c k).shownSeq (BitVec.ofNat 16 (1 * 2 ^ 14 + w)) }.withoutCycle s.granted r false)

/-- Under REJECT a guarded write is discarded with error at its grant: no memory cycle, HERR with the release of HWAIT;
FAULTS counts it, and GUARD_DISCARD carries the cause REJECT (2) (R73, R80). -/
def Obligations.GuardedWriteIsRejected : Prop :=
  ∀ (s : State) (r : HostRecord) (pins : Pins) (c : ChanId) (k w : Nat), HostGranted s r → GuardedWrite s r c k w →
    (s.chan c).guard = 1 → w < 1024 →
    exec (.hostGrant pins) s = .next ({ s.setChan c { s.chan c with faults := (s.chan c).faults + 1 } with
      guard := ⟨none, none⟩
      nu := s.reported ((s.chan c).enables.getLsbD 4) .guardDiscard (BitVec.ofNat 8 c.val) (BitVec.ofNat 8 k)
        (s.slot c k).shownSeq (BitVec.ofNat 16 (2 * 2 ^ 14 + w)) }.withoutCycle s.granted r true)

/-- Under STALL a guarded write is held at its grant with reason SLOT, with no notice and no count: the stall timer starts at
the first holding and keeps its deadline at a later one (R74); with STALL_LIMIT 0 it has run out at once and the write ends
with HERR and GUARD_DISCARD, cause STALL_EXPIRED (3) (R43, R76). -/
def Obligations.GuardedWriteIsHeld : Prop :=
  ∀ (s : State) (r : HostRecord) (pins : Pins) (c : ChanId) (k w : Nat), HostGranted s r → GuardedWrite s r c k w →
    (s.chan c).guard = 2 → w < 1024 →
    (s.guard.held = none → (s.chan c).stallLimit ≠ 0 →
      exec (.hostGrant pins) s = .next { s with
        host := { s.host with port := .held r }
        arb := s.granted.arb
        freeCount := s.granted.freeCount
        guard := ⟨some ⟨c, k, w, .slot⟩, some (s.now + 4 * (s.chan c).stallLimit.toNat)⟩ }) ∧
    (s.guard.held ≠ none →
      exec (.hostGrant pins) s = .next { s with
        host := { s.host with port := .held r }
        arb := s.granted.arb
        freeCount := s.granted.freeCount
        guard := ⟨some ⟨c, k, w, .slot⟩, s.guard.stallTimer⟩ }) ∧
    (s.guard.held = none → (s.chan c).stallLimit = 0 →
      exec (.hostGrant pins) s = .next ({ s.setChan c { s.chan c with faults := (s.chan c).faults + 1 } with
        guard := ⟨none, none⟩
        nu := s.reported ((s.chan c).enables.getLsbD 4) .guardDiscard (BitVec.ofNat 8 c.val) (BitVec.ofNat 8 k)
          (s.slot c k).shownSeq (BitVec.ofNat 16 (3 * 2 ^ 14 + w)) }.withoutCycle s.granted r true))

/-- The guard's law: no host write is performed on memory at a word of a slot that is COMMITTED, SENDING or FILLING at the
write's grant, but the header write of LENGTH 0 that withdraws a COMMITTED slot (R71). The slot's record stays too. -/
def Obligations.NoHostWriteReachesAPartOwnedSlot : Prop :=
  ∀ (s : State) (r : HostRecord) (pins : Pins) (c : ChanId) (k w : Nat), HostGranted s r → GuardedWrite s r c k w →
    ∃ t, exec (.hostGrant pins) s = .next t ∧ t.arb.port = none ∧ t.slot c k = s.slot c k ∧ t.lanes = s.lanes

/-- The stall timer's expiry ends the held write, held or waiting again, with HERR and no memory cycle, reported by the reason
it last held: GUARD_DISCARD with cause STALL_EXPIRED (3), or COMMIT_REFUSED with QUEUE_FULL (2) (R76, R80, R81). Before its
deadline there is no expiry (log entries 4 and 9). -/
def Obligations.StallTimerEndsTheHeldWrite : Prop :=
  ∀ (s : State) (r : HostRecord) (h : HeldWrite) (d : Nat),
    s.guard = ⟨some h, some d⟩ → (s.host.port = .held r ∨ s.host.port = .waiting r) → h.word < 1024 →
    let ended := { s.setChan h.chan { s.chan h.chan with faults := (s.chan h.chan).faults + 1 } with
      guard := ⟨none, none⟩
      host := { s.host with port := .idle, answer := some ⟨!r.write, r.write, true, none⟩ } }
    (d ≤ s.now → h.reason = .slot →
      exec .stallTimerExpiry s = .next (s.noting { ended with
        nu := s.reported ((s.chan h.chan).enables.getLsbD 4) .guardDiscard (BitVec.ofNat 8 h.chan.val)
          (BitVec.ofNat 8 h.slot) (s.slot h.chan h.slot).shownSeq (BitVec.ofNat 16 (3 * 2 ^ 14 + h.word)) })) ∧
    (d ≤ s.now → h.reason = .queue →
      exec .stallTimerExpiry s = .next (s.noting { ended with
        nu := s.reported ((s.chan h.chan).enables.getLsbD 5) .commitRefused (BitVec.ofNat 8 h.chan.val)
          (BitVec.ofNat 8 h.slot) 0 2 })) ∧
    (s.now < d → exec .stallTimerExpiry s = .next s)

/-- A write held with reason SLOT returns to HP_WAITING when its slot becomes host-owned, that is FREE, FAILED or READY, and one
held with reason QUEUE when an entry leaves its lane's queue; no other slot's passage, and no other queue's, wakes it (R75). -/
def Obligations.HeldWriteIsWoken : Prop :=
  ∀ (s : State) (r : HostRecord) (h : HeldWrite), s.host.port = .held r → s.guard.held = some h →
    (∀ c k, (s.wakeSlot c k).host = { s.host with
        port := if h.reason = .slot ∧ h.chan = c ∧ h.slot = k then .waiting r else .held r }) ∧
    (∀ c k, (h.reason = .slot ∧ h.chan = c ∧ h.slot = k →
        s.freeSlot c k = { s.setSlot c k ⟨.free, 0, 0⟩ with host := { s.host with port := .waiting r } }) ∧
      (¬(h.reason = .slot ∧ h.chan = c ∧ h.slot = k) → s.freeSlot c k = s.setSlot c k ⟨.free, 0, 0⟩)) ∧
    (∀ n q d, (s.lane n).snd.cur = some q → (s.failRecord n q d).host = { s.host with
        port := if h.reason = .slot ∧ h.chan = q.chan ∧ h.slot = q.slot then .waiting r else .held r }) ∧
    (∀ n q, (s.recordReady n q).host = { s.host with
        port := if h.reason = .slot ∧ h.chan = q.chan ∧ h.slot = q.slot then .waiting r else .held r }) ∧
    (∀ n e rest, (s.lane n).snd.queue = e :: rest → (s.lane n).snd.cur = none → (s.lane n).snd.strobe = none →
      (s.startHead n).host = { s.host with
        port := if h.reason = .queue ∧ (s.chan h.chan).lane = n then .waiting r else .held r })

/-! ### The arbiter -/

/-- Who is granted next (R147, R148, R149, R152, R153). When the port becomes FREE the requests presented before that moment
stand and those that come at it join, to be taken before the decision or after it (which is free, log entry 25). An event that
then presents or withdraws requests leaves the contenders still presented as they are, and a request that comes later does not
contend; with none left, each request presented at the FREE port is alone. The host is granted, with a counter that rises
exactly for a standing internal request or, as a free value says, a joining one, or the first contender of the circle from the
pointer up to the first that stands: the pointer moves past it, the counter becomes 0, and only the requester and the port
change. A FREE port with a request presented has a grant due; where none is due the grant commands are no events (log entry
4). -/
def Obligations.ArbiterGrantsInCircleOrder : Prop :=
  ∀ s : State,
    (∀ who, s.contends who = (s.stands who || s.joins who || s.alone who) ∧
      (s.contends who = true → s.presented who = true) ∧
      ∀ standing, s.arb.contest = .opened standing →
        s.stands who = (s.presented who && standing.contains who) ∧
        s.joins who = (s.presented who && !standing.contains who) ∧ s.alone who = false) ∧
    (∀ t : State, s.arb.port = none → t.arb = s.arb → (s.noting t).arb.port = none ∧
      ((∃ who, s.contends who = true ∧ t.presented who = true) → ∀ who,
        (s.noting t).stands who = (s.stands who && t.presented who) ∧
        (s.noting t).joins who = (s.joins who && t.presented who) ∧
        (s.noting t).alone who = (s.alone who && t.presented who)) ∧
      ((∀ who, s.contends who = true → t.presented who = false) → ∀ who,
        (s.noting t).stands who = false ∧ (s.noting t).joins who = false ∧
        (s.noting t).alone who = t.presented who)) ∧
    ((s.internalStanding = true → s.granted.arb.patienceCtr = s.arb.patienceCtr + 1) ∧
      (s.internalStanding = false → s.internalJoining = false ∨ s.dev.patience ≤ s.arb.patienceCtr →
        s.granted.arb.patienceCtr = s.arb.patienceCtr)) ∧
    (s.arb.port = none → (∃ who, s.presented who = true) → (∃ r, HostGranted s r) ∨
      (s.internalContending = true ∧ (s.stands .host = false ∨ s.dev.patience ≤ s.arb.patienceCtr))) ∧
    (RingLaw s → RecordLaw s → s.arb.port = none → s.internalContending = true →
      (s.stands .host = false ∨ s.dev.patience ≤ s.arb.patienceCtr) →
      ∃ p a t, exec .memoryPortGrant s = .next t ∧ s.contends (requesterAt p) = true ∧
        (∀ q, s.stands (requesterAt q) = true → (p - s.arb.rr).val ≤ (q - s.arb.rr).val) ∧
        t.arb = ⟨some ⟨requesterAt p, a⟩, p + 1, 0, .recorded .none⟩ ∧
        t.host = s.host ∧ t.guard = s.guard ∧ t.dev = s.dev ∧ t.chans = s.chans ∧
        t.nu = (if requesterAt p = .notice then { s.nu with
            writer := if s.nu.writer = .word0Waiting then WriterState.word0Writing else WriterState.word1Writing }
          else s.nu) ∧
        ∀ n, t.lane n = { s.lane n with
          snd := if requesterAt p = .send n then { (s.lane n).snd with mover := .busy } else (s.lane n).snd
          rcv := if requesterAt p = .recv n then { (s.lane n).rcv with mover := .busy } else (s.lane n).rcv }) ∧
    (s.arb.port ≠ none ∨ s.internalContending = false ∨
        (s.stands .host = true ∧ s.arb.patienceCtr < s.dev.patience) →
      exec .memoryPortGrant s = .next s) ∧
    (∀ pins, s.arb.port ≠ none ∨ s.contends .host = false ∨
        (s.internalStanding = true ∧ s.dev.patience ≤ s.arb.patienceCtr) →
      exec (.hostGrant pins) s = .next s)

/-- The access granted to an internal requester names the word its rule gives: a send mover's read, payload word
bytes read / 4 + 1 of the slot being sent with the enables of the bytes below LENGTH (R114); a receive mover's write of the
gathered bytes or of the closing header (R132, R135); the notice writer's word of the head notice at the producer index
(R166, R167). Every memory write the part makes for itself therefore falls, at its grant, on a word of a FILLING slot of a
channel bound to the writing lane, or on the ring record at the current producer index (R133). -/
def Obligations.GrantedAccessFallsWhereItMay : Prop :=
  ∀ (s t : State) (who : Requester) (a : MemAccess), Inv s → s.arb.port = none →
    exec .memoryPortGrant s = .next t → t.arb.port = some ⟨who, a⟩ →
    (∀ n, who = .send n → ∃ q, (s.lane n).snd.cur = some q ∧ a.write = none ∧
      (s.slot q.chan q.slot).state = .sending ∧
      a.addr.toNat = (s.chan q.chan).base.toNat + q.slot * (s.chan q.chan).size + 4 * (q.read / 4 + 1) ∧
      ∀ i < 4, a.be.getLsbD i = decide (q.read + i < q.len)) ∧
    (∀ n, who = .recv n → ∃ q, ((s.lane n).rcv.state = .filling q ∨ (s.lane n).rcv.state = .closing q) ∧
      s.serves q.chan .inbound n = true ∧ (s.slot q.chan q.slot).state = .filling ∧
      q.slot < (s.chan q.chan).count.toNat ∧
      (∀ g, g = (s.lane n).rcv.gather →
        (g ≠ [] →
          a.addr.toNat = (s.chan q.chan).base.toNat + q.slot * (s.chan q.chan).size +
            4 * (1 + ((s.slot q.chan q.slot).len - g.length) / 4) ∧
          a.addr.toNat < (s.chan q.chan).base.toNat + (q.slot + 1) * (s.chan q.chan).size ∧
          (∀ i < 4, a.be.getLsbD i = decide (i < g.length)) ∧
          ∃ w, a.write = some w ∧ ∀ i < g.length, g[i]? = some (w.extractLsb' (8 * i) 8)) ∧
        (g = [] → (s.lane n).rcv.state = .closing q ∧
          a.addr.toNat = (s.chan q.chan).base.toNat + q.slot * (s.chan q.chan).size ∧ a.be = 0xF ∧
          ∃ w, a.write = some w ∧ (w.extractLsb' 0 16).toNat = (s.slot q.chan q.slot).len ∧
            w.extractLsb' 16 8 = (s.chan q.chan).seqCtr ∧ w.extractLsb' 24 3 = 5 ∧ w.getLsbD 31 = q.truncated))) ∧
    (who = .notice → ∃ x rest, s.nu.list = x :: rest ∧ a.be = 0xF ∧ s.dev.ringSize ≠ 0 ∧
      (s.nu.writer = .word0Waiting →
        a.addr.toNat = s.dev.ringBase.toNat + 8 * (s.nu.prod.toNat % ringRecords s.dev.ringSize) ∧
        ∃ w, a.write = some w ∧ w.extractLsb' 0 8 = x.kind.code ∧ w.extractLsb' 8 8 = x.source ∧
          w.extractLsb' 16 8 = x.slot ∧ w.extractLsb' 24 8 = x.seq) ∧
      (s.nu.writer = .word1Waiting →
        a.addr.toNat = s.dev.ringBase.toNat + 8 * (s.nu.prod.toNat % ringRecords s.dev.ringSize) + 4 ∧
        ∃ w, a.write = some w ∧ w.extractLsb' 0 16 = x.detail ∧ w.extractLsb' 16 16 = x.number)) ∧
    who ≠ .host

/-! ### Outbound records -/

/-- A send mover's read completes without MERR: the bytes its enables selected join the transmit buffer, a starved side offers
the first of them at once, with the take timer, and the next read is presented if 4 bytes are free and bytes are unread
(R114, R115). An orphaned read's data and MERR are dropped, and the current record's first read is presented then (R120). -/
def Obligations.SendReadFeedsTheLines : Prop :=
  ∀ (s : State) (n : LaneId) (a : MemAccess) (data : Word) (merr : Bool) (x : SendSide) (u : State),
    s.arb.port = some ⟨.send n, a⟩ → x = (s.lane n).snd → u = { s with arb := s.freedArb } →
    (∀ q count, x.mover = .busy → x.cur = some q → count = min 4 (q.len - q.read) →
      (q.offering = true →
        exec (.sendMoverReadCompletion data false) s = .next (u.setSnd n { x with
          tx := x.tx ++ wordBytes data count
          cur := some { q with read := q.read + count }
          mover := if x.tx.length + count + 4 ≤ 16 ∧ q.read + count < q.len then .waiting else .none })) ∧
      (q.offering = false → x.tx = [] → q.read < q.len →
        exec (.sendMoverReadCompletion data false) s = .next (u.setSnd n { x with
          tx := (wordBytes data count).tail
          data := data.extractLsb' 0 8
          cur := some { q with read := q.read + count, offered := q.offered + 1, offering := true }
          takeTimer := deadline s.now (s.lane n).takeLimit
          mover := if q.read + count < q.len then .waiting else .none }))) ∧
    (x.mover = .orphaned →
      (x.cur = none → exec (.sendMoverReadCompletion data merr) s = .next (u.setSnd n { x with mover := .none })) ∧
      (∀ q, x.cur = some q →
        exec (.sendMoverReadCompletion data merr) s = .next (u.setSnd n { x with
          mover := if x.tx.length + 4 ≤ 16 ∧ q.read < q.len then .waiting else .none })))

/-- A record fails at its take timer's expiry with TAKE_TIMEOUT (1), its waiting read withdrawn or its read in progress
orphaned, and at the completion of its read with MERR with MEMORY_ERROR (2), the mover NONE (R93, R118, R119, R123). Before
the deadline there is no expiry (log entries 4 and 9). -/
def Obligations.FailedRecordGivesTheStrobeAndIsReported : Prop :=
  ∀ (s : State) (n : LaneId) (q : SendRecord), (s.lane n).snd.cur = some q →
    (∀ d, q.offering = true → (s.lane n).snd.takeTimer = some d → d ≤ s.now →
      exec (.takeTimerExpiry n) s = .next (s.noting (s.sendFailed n q
        (if (s.lane n).snd.mover = .busy ∨ (s.lane n).snd.mover = .orphaned then .orphaned else .none) 1))) ∧
    ((s.lane n).snd.takeTimer = none ∨ (∃ d, (s.lane n).snd.takeTimer = some d ∧ s.now < d) →
      exec (.takeTimerExpiry n) s = .next s) ∧
    (∀ a data, s.arb.port = some ⟨.send n, a⟩ → (s.lane n).snd.mover = .busy →
      exec (.sendMoverReadCompletion data true) s =
        .next ({ s with arb := s.freedArb }.sendFailed n q .none 2))

/-- The assertion of TAKE notes whether a byte is offered. Its release takes that byte if the offer has stood: the next
buffered byte is offered at once with a new take timer, with MARK if it is the last, or the side is starved with no timer
(R91, R92, R116). Any other pulse is ignored (log entries 4 and 11). -/
def Obligations.TakeOffersTheNextByte : Prop :=
  ∀ (s : State) (n : LaneId) (x : SendSide), x = (s.lane n).snd →
    ((s.lane n).mode = .send ∨ (s.lane n).mode = .duplex →
      exec (.takeAssertion n) s =
        .next (s.setSnd n { x with takePulse := some (x.cur.any fun q => q.offering) })) ∧
    ((s.lane n).mode = .mirror ∨ (s.lane n).mode = .receive → exec (.takeAssertion n) s = .next s) ∧
    (x.takePulse ≠ some true ∨ x.cur = none ∨ (∃ q, x.cur = some q ∧ q.offering = false) →
      exec (.take n) s = .next (s.setSnd n { x with takePulse := none })) ∧
    (∀ q, x.takePulse = some true → x.cur = some q → q.offering = true → q.offered ≠ q.len →
      (∀ b rest, x.tx = b :: rest → ∃ t,
        exec (.take n) s = .next (s.noting t) ∧
        t = s.setSnd n { x with
          takePulse := none
          tx := rest
          data := b
          cur := some { q with offered := q.offered + 1 }
          takeTimer := deadline s.now (s.lane n).takeLimit
          mover := if x.mover = .none ∧ rest.length + 4 ≤ 16 ∧ q.read < q.len then .waiting else x.mover } ∧
        (x.strobe = none → (t.lane n).snd.markLine = decide (q.offered + 1 = q.len))) ∧
      (x.tx = [] →
        exec (.take n) s = .next (s.noting (s.setSnd n { x with
          takePulse := none
          cur := some { q with offering := false }
          takeTimer := none }))))

/-- The take of the last byte completes the record (R117): a SEND lane starts its next entry, a DUPLEX lane's outbound turn
ends. -/
def Obligations.LastTakeCompletesTheRecord : Prop :=
  ∀ (s : State) (n : LaneId) (q : SendRecord) (x : SendSide), x = (s.lane n).snd →
    x.takePulse = some true → x.cur = some q → q.offering = true → q.offered = q.len →
    ((s.lane n).mode = .send → x.queue = [] ∨ x.strobe ≠ none → exec (.take n) s = .next (s.noting (s.sendDone n q))) ∧
    (∀ e rest, (s.lane n).mode = .send → x.queue = e :: rest → x.strobe = none →
      exec (.take n) s = .next (s.noting ((s.sendDone n q).started n e rest))) ∧
    ((s.lane n).mode = .duplex → exec (.take n) s = .next (s.noting ((s.sendDone n q).endTurn n .outbound)))

/-- The abort strobe ends 1 µs after it began, one tick of the model's clock, and not before (R94, log entry 9): a SEND lane
then starts its head entry, a DUPLEX lane's outbound turn ends (R101, R109). -/
def Obligations.StrobeEndLetsTheLaneGoOn : Prop :=
  ∀ (s : State) (n : LaneId) (d : Nat) (x : SendSide) (u : State), x = (s.lane n).snd → x.strobe = some d →
    u = s.setSnd n { x with strobe := none } →
    (s.now < d → exec (.abortStrobeEnd n) s = .next s) ∧
    (d ≤ s.now → (s.lane n).mode = .send → x.queue = [] ∨ x.cur ≠ none →
      exec (.abortStrobeEnd n) s = .next (s.noting u)) ∧
    (∀ e rest, d ≤ s.now → (s.lane n).mode = .send → x.queue = e :: rest → x.cur = none →
      exec (.abortStrobeEnd n) s = .next (s.noting (u.started n e rest))) ∧
    (d ≤ s.now → (s.lane n).mode = .duplex → exec (.abortStrobeEnd n) s = .next (s.noting (u.endTurn n .outbound)))

/-- WANT and the turn (R100, R101, R102). A rise of WANT at T_IDLE grants T_IN, or T_OUT where entries wait and the last
direction is IN; a fall before the first put of a T_IN turn ends it, and no other rise or fall is decided on. When a turn
ends the arbiter decides again from WANT, the queue and the direction that has ended. On a lane that is not DUPLEX neither
command is an event (log entries 4 and 21). -/
def Obligations.TurnFollowsWantAndTheQueue : Prop :=
  ∀ (s : State) (n : LaneId) (d : Direction),
    ((s.lane n).mode ≠ .duplex → exec (.wantRise n) s = .next s ∧ exec (.wantFall n) s = .next s) ∧
    ((s.lane n).mode = .duplex → ∀ u v w : State,
      u = s.setTurn n { (s.lane n).turn with want := true } →
      v = s.setTurn n { (s.lane n).turn with want := false } → w = s.turnOver n d →
      ((s.lane n).turn.turn ≠ .idle → exec (.wantRise n) s = .next (s.noting u)) ∧
      ((s.lane n).turn.turn = .idle → (s.lane n).snd.queue = [] ∨ (s.lane n).turn.last = .outbound →
        exec (.wantRise n) s = .next (s.noting (u.takesIn n))) ∧
      (∀ e rest, (s.lane n).turn.turn = .idle → (s.lane n).snd.queue = e :: rest → (s.lane n).turn.last = .inbound →
        (s.lane n).snd.cur = none → (s.lane n).snd.strobe = none →
        exec (.wantRise n) s = .next (s.noting (u.takesOut n e rest))) ∧
      ((s.lane n).turn.turn = .inn → (s.lane n).turn.putSeen = false →
        exec (.wantFall n) s = .next (s.noting (v.endTurn n .inbound))) ∧
      ((s.lane n).turn.turn ≠ .inn ∨ (s.lane n).turn.putSeen = true → exec (.wantFall n) s = .next v) ∧
      ((s.lane n).turn.want = false → (s.lane n).snd.queue = [] → s.endTurn n d = w) ∧
      ((s.lane n).turn.want = true → (s.lane n).snd.queue = [] ∨ d = .outbound → s.endTurn n d = w.takesIn n) ∧
      (∀ e rest, (s.lane n).snd.queue = e :: rest → (s.lane n).turn.want = false ∨ d = .inbound →
        (s.lane n).snd.cur = none → (s.lane n).snd.strobe = none →
        s.endTurn n d = w.takesOut n e rest))

/-! ### Inbound records -/

/-- A put on a lane that takes puts (R96, R97). With ROOM, the byte joins the tail of the buffer, or is skipped in P_SKIP, the
put state and the byte timer follow MARK, and the receive side consumes what it can, head entry after head entry. With the
buffer full the byte is lost, and OVERRUN is attached to the tail entry of a record being put. On a DUPLEX lane a put with
MARK ends the turn (R102); where no puts are taken the pulse is ignored (log entries 4 and 11). An entry that leaves
a full buffer asserts ROOM again, and the byte timer then starts afresh within a record or in a T_IN turn that has had no put
(R96). Where BYTE_LIMIT is 0 by then, a put and that restart leave the timer stopped: the model's inference (log entry 16). -/
def Obligations.PutJoinsTheBufferOrOverruns : Prop :=
  ∀ (s : State) (n : LaneId) (b : Byte) (mark : Bool) (x : RecvSide) (l : Lane), l = s.lane n → x = l.rcv →
    (¬(l.mode = .receive ∨ (l.mode = .duplex ∧ l.turn.turn = .inn)) → exec (.put n b mark) s = .next s) ∧
    (l.mode = .receive ∨ (l.mode = .duplex ∧ l.turn.turn = .inn) → ∀ (after : PutState) (u : State),
      (x.rx.length < 16 →
        after = (if mark = true then .gap else if x.putState = .skip then .skip else .record) →
        (∀ rx, rx = (if x.putState = .skip then x.rx else x.rx ++ [⟨b, mark, none⟩]) →
          u = s.setLane n { l with
            turn := { l.turn with putSeen := true }
            rcv := { x with
              rx := rx
              putState := after
              markPulse := if mark = true then some true else none
              byteTimer := if rx.length < 16 ∧ after ≠ .gap then deadline s.now l.byteLimit else none } } →
          exec (.put n b mark) s = .next (s.noting
            (if mark = true ∧ l.mode = .duplex then (u.drain n).endTurn n .inbound else u.drain n)))) ∧
      (16 ≤ x.rx.length → after = (if mark = true then .gap else .skip) →
        (∀ rx front e, x.rx = front ++ [e] →
          rx = (if x.putState = .record then front ++ [{ e with mark := some .overrun }] else x.rx) →
          u = s.setLane n { l with
            turn := { l.turn with putSeen := true }
            rcv := { x with
              rx := rx
              putState := after
              markPulse := if mark = true then some true else none } } →
          exec (.put n b mark) s = .next (s.noting
            (if mark = true ∧ l.mode = .duplex then u.endTurn n .inbound else u))))) ∧
    (∀ rest, s.popRx n rest = s.setRcv n { x with
      rx := rest
      byteTimer := if x.rx.length = 16 ∧ (l.mode = .receive ∨ (l.mode = .duplex ∧ l.turn.turn = .inn)) ∧
          (x.putState ≠ .gap ∨ (l.turn.turn = .inn ∧ l.turn.putSeen = false))
        then deadline s.now l.byteLimit else x.byteTimer }) ∧
    (x.consumes = false ∨ x.rx = [] → s.drain n = s) ∧
    (∀ e rest, x.consumes = true → x.rx = e :: rest →
      s.drain n = ((s.popRx n rest).consumeEntry n e).drain n)

/-- A consumed entry acts by the state of its side, then its last flag, then its end mark (R125). In R_IDLE its byte is routed
(R126): a miss is reported under MISS_NOTE and discarded (R127); a match picks the first FREE slot from the fill pointer
(R129) or waits for one (R130). In R_FILLING it is stored, the fourth gathered byte presenting the word's write, or dropped as
truncated when the slot is full (R132, R134); last closes the record (R135). In R_DISCARDING it is dropped through last (R140). -/
def Obligations.ConsumedEntryActsByTheState : Prop :=
  ∀ (s : State) (n : LaneId) (b : Byte) (last : Bool) (x : RecvSide), x = (s.lane n).rcv →
    (∀ m, s.consumeEntry n ⟨b, last, some m⟩ = (s.consumeEntry n ⟨b, last, none⟩).takeMark n m) ∧
    (x.state = .idle → ∀ code : BitVec 4, code = b.extractLsb' 0 4 →
      ((∀ c, ¬(s.serves c .inbound n = true ∧ (s.chan c).route = code)) →
        s.consumeEntry n ⟨b, last, none⟩ = { s.setRcv n { x with
            state := if last then RecvState.idle else RecvState.discarding } with
          nu := s.reported (s.lane n).missNote .routeMiss (BitVec.ofNat 8 (0x10 + n.val)) 0xFF 0
            (code.setWidth 16) }) ∧
      (∀ c, (∀ d, (s.serves d .inbound n = true ∧ (s.chan d).route = code) ↔ d = c) →
        (s.chan c).fillPtr < (s.chan c).count.toNat →
        (∀ k, k < (s.chan c).count.toNat → (s.slot c k).state = .free →
          (∀ j, j < (s.chan c).count.toNat → (s.slot c j).state = .free →
            (k + (s.chan c).count.toNat - (s.chan c).fillPtr) % (s.chan c).count.toNat ≤
              (j + (s.chan c).count.toNat - (s.chan c).fillPtr) % (s.chan c).count.toNat) →
          s.consumeEntry n ⟨b, last, none⟩ = (s.setChan c { s.chan c with
              slots := (s.chan c).slots.set k ⟨.filling, 0, 0⟩
              fillPtr := (k + 1) % (s.chan c).count.toNat }).setRcv n { x with
                gather := []
                slotWaitTimer := none
                state := if last then RecvState.closing ⟨c, k, false⟩ else RecvState.filling ⟨c, k, false⟩
                mover := if last = true ∧ x.mover = Mover.none then Mover.waiting else x.mover }) ∧
        ((∀ j, j < (s.chan c).count.toNat → (s.slot c j).state ≠ .free) →
          s.consumeEntry n ⟨b, last, none⟩ = s.setRcv n { x with
            state := .slotWait c last
            slotWaitTimer := deadline s.now (s.lane n).slotWait }))) ∧
    (∀ q, x.state = .filling q →
      ((s.slot q.chan q.slot).len < (s.chan q.chan).capacity →
        ∀ mover, mover = (if x.gather.length + 1 = 4 then Mover.waiting else x.mover) →
        s.consumeEntry n ⟨b, last, none⟩ = (s.setSlot q.chan q.slot { s.slot q.chan q.slot with
            len := (s.slot q.chan q.slot).len + 1 }).setRcv n { x with
              gather := x.gather ++ [b]
              state := if last then RecvState.closing q else RecvState.filling q
              mover := if last = true ∧ mover = Mover.none then Mover.waiting else mover }) ∧
      ((s.chan q.chan).capacity ≤ (s.slot q.chan q.slot).len →
        s.consumeEntry n ⟨b, last, none⟩ = s.setRcv n { x with
          state := if last then RecvState.closing { q with truncated := true }
            else RecvState.filling { q with truncated := true }
          mover := if last = true ∧ x.mover = Mover.none then Mover.waiting else x.mover })) ∧
    (x.state = .discarding →
      s.consumeEntry n ⟨b, last, none⟩ = s.setRcv n { x with
        state := if last then RecvState.idle else RecvState.discarding })

/-- An end mark drops the record being filled, or waiting with its last byte not yet consumed, as ENGINE_ABORT (1),
BYTE_TIMEOUT (2) or OVERRUN (3); it ends a discard; in every other state it is ignored (R137, R138, R141). -/
def Obligations.EndMarkDropsTheRecord : Prop :=
  ∀ (s : State) (n : LaneId) (m : EndMark) (detail : BitVec 16) (x : RecvSide), x = (s.lane n).rcv →
    (m = .abort ∧ detail = 1 ∨ m = .timeout ∧ detail = 2 ∨ m = .overrun ∧ detail = 3) →
    (∀ q, x.state = .filling q → s.takeMark n m = s.dropped n q detail .idle) ∧
    (∀ c, x.state = .slotWait c false →
      s.takeMark n m = { (s.setRcv n { x with slotWaitTimer := none, state := .idle }).setChan c { s.chan c with
          faults := (s.chan c).faults + 1 } with
        nu := s.reported ((s.chan c).enables.getLsbD 3) .rxDropped (BitVec.ofNat 8 c.val) 0xFF 0 detail }) ∧
    (x.state = .discarding → s.takeMark n m = s.setRcv n { x with state := .idle }) ∧
    ((∃ c, x.state = .slotWait c true) ∨ (∃ q, x.state = .closing q) ∨ x.state = .idle → s.takeMark n m = s)

/-- An engine abort is a MARK pulse during which PUT is not asserted, at its start or by a put, and the byte timer's expiry
ends a record the engine has left (R98, R99). In P_RECORD, and for an abort in P_GAP with no mark there yet, the mark goes on
the tail entry, or at once to the receive side of an empty buffer; the put state is P_GAP and the byte timer stopped. In T_IN
either ends the turn (R102). Elsewhere the pulse is not seen, and before its deadline the timer does not expire (log entries
4, 9 and 11). -/
def Obligations.AbortAndByteTimerMarkTheRecord : Prop :=
  ∀ (s : State) (n : LaneId) (x : RecvSide) (takes : Bool), x = (s.lane n).rcv →
    takes = ((s.lane n).mode == .receive || ((s.lane n).mode == .duplex && (s.lane n).turn.turn == .inn)) →
    (∀ put, exec (.markAssertion ⟨n, put⟩) s =
      .next (if takes then s.setRcv n { x with markPulse := some put } else s)) ∧
    (takes = false ∨ x.markPulse ≠ some false →
      exec (.engineAbort n) s = .next (s.setRcv n { x with markPulse := none })) ∧
    (∀ u v : State, v = (if (s.lane n).mode = .duplex then u.endTurn n .inbound else u) →
      takes = true → x.markPulse = some false →
      (x.putState = .skip →
        u = s.setRcv n { x with markPulse := none, putState := .gap, byteTimer := none } →
        exec (.engineAbort n) s = .next (s.noting v)) ∧
      (x.putState = .record → x.rx = [] →
        u = (s.setRcv n { x with markPulse := none, putState := .gap, byteTimer := none }).takeMark n .abort →
        exec (.engineAbort n) s = .next (s.noting v)) ∧
      (x.putState = .gap → x.rx = [] →
        u = (s.setRcv n { x with markPulse := none }).takeMark n .abort → exec (.engineAbort n) s = .next (s.noting v)) ∧
      (∀ front e, x.rx = front ++ [e] →
        (x.putState = .record →
          u = s.setRcv n { x with
            markPulse := none, putState := .gap, byteTimer := none
            rx := front ++ [{ e with mark := some .abort }] } → exec (.engineAbort n) s = .next (s.noting v)) ∧
        (x.putState = .gap →
          u = s.setRcv n { x with
            markPulse := none
            rx := front ++ [if e.mark = none then { e with mark := some .abort } else e] } →
          exec (.engineAbort n) s = .next (s.noting v)))) ∧
    (∀ (d : Nat) (u v : State), x.byteTimer = some d →
      v = (if (s.lane n).mode = .duplex ∧ (s.lane n).turn.turn = .inn then u.endTurn n .inbound else u) →
      (s.now < d → exec (.byteTimerExpiry n) s = .next s) ∧
      (d ≤ s.now → x.putState ≠ .record → u = s.setRcv n { x with putState := .gap, byteTimer := none } →
        exec (.byteTimerExpiry n) s = .next (s.noting v)) ∧
      (d ≤ s.now → x.putState = .record → x.rx = [] →
        u = (s.setRcv n { x with putState := .gap, byteTimer := none }).takeMark n .timeout →
        exec (.byteTimerExpiry n) s = .next (s.noting v)) ∧
      (∀ front e, d ≤ s.now → x.putState = .record → x.rx = front ++ [e] →
        u = s.setRcv n { x with
          putState := .gap, byteTimer := none
          rx := front ++ [{ e with mark := some .timeout }] } →
        exec (.byteTimerExpiry n) s = .next (s.noting v)))

/-- The slot wait timer's expiry drops the waiting record with NO_SLOT (5) and SLOT FFh, and the side discards the rest of it,
or is idle if it has ended, and consumes on (R131); before the deadline there is no expiry (log entries 4 and
9). -/
def Obligations.SlotWaitExpiryDropsTheRecord : Prop :=
  ∀ (s : State) (n : LaneId) (c : ChanId) (ended : Bool) (d : Nat) (x : RecvSide), x = (s.lane n).rcv →
    x.state = .slotWait c ended → x.slotWaitTimer = some d →
    (s.now < d → exec (.slotWaitExpiry n) s = .next s) ∧
    (d ≤ s.now →
      exec (.slotWaitExpiry n) s = .next (s.noting ({ (s.setRcv n { x with
          slotWaitTimer := none
          state := if ended then RecvState.idle else RecvState.discarding }).setChan c { s.chan c with
            faults := (s.chan c).faults + 1 } with
        nu := s.reported ((s.chan c).enables.getLsbD 3) .rxDropped (BitVec.ofNat 8 c.val) 0xFF 0 5 }.drain n)))

/-- A receive mover's write completes (R133). A payload word leaves the gather word empty, and a close goes on to its header
(R135); the header makes the slot READY with its length and number, advances the sequence counter and DONE and reports
RX_READY (R136, R141); MERR drops the record with MEMORY_ERROR (4), the rest of it discarded unless it has ended (R139); an
orphaned write's MERR is dropped. The side then consumes what it can. -/
def Obligations.ReceiveWriteCompletes : Prop :=
  ∀ (s u : State) (n : LaneId) (a : MemAccess) (merr : Bool) (x : RecvSide), x = (s.lane n).rcv →
    s.arb.port = some ⟨.recv n, a⟩ → u = { s with arb := s.freedArb } →
    (∀ q, x.mover = .busy → x.state = .filling q →
      exec (.receiveMoverWriteCompletion false) s =
        .next ((u.setRcv n { x with gather := [], mover := .none }).drain n) ∧
      exec (.receiveMoverWriteCompletion true) s =
        .next (((u.setRcv n { x with mover := .none }).dropped n q 4 .discarding).drain n)) ∧
    (∀ q, x.mover = .busy → x.state = .closing q →
      (x.gather ≠ [] →
        exec (.receiveMoverWriteCompletion false) s =
          .next (u.setRcv n { x with gather := [], mover := .waiting })) ∧
      (x.gather = [] → ∀ sl ch, sl = s.slot q.chan q.slot → ch = s.chan q.chan →
        exec (.receiveMoverWriteCompletion false) s =
          .next ({ (u.setRcv n { x with state := .idle, mover := .none }).setChan q.chan { ch with
              slots := ch.slots.set q.slot ⟨.ready, sl.len, ch.seqCtr⟩
              seqCtr := ch.seqCtr + 1
              done := ch.done + 1 } with
            host := (s.wakeSlot q.chan q.slot).host
            nu := s.reported (ch.enables.getLsbD 2) .rxReady (BitVec.ofNat 8 q.chan.val) (BitVec.ofNat 8 q.slot)
              ch.seqCtr (BitVec.ofNat 16 (sl.len % 2 ^ 12 + if q.truncated then 2 ^ 15 else 0)) }.drain n)) ∧
      exec (.receiveMoverWriteCompletion true) s =
        .next (((u.setRcv n { x with mover := .none }).dropped n q 4 .idle).drain n)) ∧
    (x.mover = .orphaned →
      exec (.receiveMoverWriteCompletion merr) s =
        .next ((u.setRcv n { x with
          mover := if x.state.code = 3 then Mover.waiting else Mover.none }).drain n))

/-! ### Mirror lines and notices -/

/-- A tick of the timer base: every lane takes a watch sample. Its changed lines set the change-held flag, and with the flag 0
report MIRROR_CHANGE with the set of them; lanes in order (the order among lanes of one tick is the model's choice, log
entry 15). In bypass and while RESETn is low the lanes keep their reset values (R16, R18, R155) and only the clock moves, which
is the model's choice (log entry 9). -/
def Obligations.WatchSampleReportsChangedLines : Prop :=
  ∀ (s : State) (pins : Pins),
    (s.resetn = true → s.bypass = false → ∃ t : State, exec (.watchSample pins) s = .next (s.noting t) ∧
      (∀ n, t.lane n = { s.lane n with mir :=
        { latch := (s.lane n).mir.latch
          changeHeld := (s.lane n).mir.changeHeld || s.changed pins n != 0
          sampled := s.liveLines pins n
          prevInput := ~~~(s.driven n)
          fresh := 0 } }) ∧
      t = { s with
        now := s.now + 1
        lanes := t.lanes
        nu := [0, 1, 2, 3].foldl (fun (x : NoticeUnit) (n : LaneId) =>
          ({ s with nu := x }).reported (s.changed pins n != 0 && !(s.lane n).mir.changeHeld) .mirrorChange
            (BitVec.ofNat 8 (0x10 + n.val)) 0xFF 0 ((s.changed pins n).setWidth 16)) s.nu }) ∧
    (s.resetn = false ∨ s.bypass = true → exec (.watchSample pins) s = .next { s with now := s.now + 1 })

/-- A notice word's write completes. After word 0 the writer presents word 1; after word 1 the notice leaves the list, the
producer index advances and IRQ follows (R168, R173); MERR on either removes the notice, sets LOST and leaves the producer
index (R169). The writer then starts the next notice if there is one and room (R167). -/
def Obligations.NoticeWordCompletes : Prop :=
  ∀ (s : State) (a : MemAccess) (x : NoticeUnit), x = s.nu → s.arb.port = some ⟨.notice, a⟩ →
    (x.writer = .word0Writing →
      exec (.noticeWordCompletion false) s = .next { s with
        arb := s.freedArb, nu := { x with writer := .word1Waiting } }) ∧
    (x.writer = .word1Writing → ∃ t, exec (.noticeWordCompletion false) s = .next t ∧
      t = { s with
        arb := s.freedArb
        nu := { x with
          list := x.list.tail
          prod := x.prod + 1
          writer := if x.list.tail ≠ [] ∧ (x.prod + 1 - x.cons).toNat < ringRecords s.dev.ringSize
            then WriterState.word0Waiting else WriterState.idle } } ∧
      (x.prod + 1 ≠ x.cons → t.irq = s.dev.irqEn)) ∧
    (x.writer = .word0Writing ∨ x.writer = .word1Writing → ∃ t,
      exec (.noticeWordCompletion true) s = .next t ∧
      t = { s with
        arb := s.freedArb
        nu := { x with
          list := x.list.tail
          lost := true
          writer := if x.list.tail ≠ [] ∧ (x.prod - x.cons).toNat < ringRecords s.dev.ringSize
            then WriterState.word0Waiting else WriterState.idle } } ∧
      t.irq = s.dev.irqEn)

/-! ### Laws that every step keeps -/

/-- The notice unit's law: at most 8 notices pend, and occupancy never exceeds the ring size and is 0 with no ring (R163). Every
step keeps it, from every state that meets it. -/
def Obligations.EveryStepKeepsTheRingLaw : Prop :=
  ∀ s t : State, RingLaw s → step s = .next t → RingLaw t

/-- The laws of the part together (Safety.lean): every step keeps them, from every state that meets them. -/
def Obligations.EveryStepKeepsTheLaws : Prop :=
  ∀ s t : State, Inv s → step s = .next t → Inv t

/-- The machine right after a hardware reset meets the laws of the part. -/
def Obligations.ResetMeetsTheLaws : Prop := Inv State.reset
end

