-- ==== Sys2Proof/Laws/State.lean ====
section
/-! SUPPORT. The small lemmas of the state's records: what each update leaves, one lemma for each field and update, and how
the updates of lanes and channels compose. Later proofs cite these and unfold no update. -/

namespace Sys2Proof.Machine

/-! ### setLane -/

@[simp] theorem State.setLane_pending (s : State) (n : LaneId) (l : Lane) : (s.setLane n l).pending = s.pending := rfl
@[simp] theorem State.setLane_resetn (s : State) (n : LaneId) (l : Lane) : (s.setLane n l).resetn = s.resetn := rfl
@[simp] theorem State.setLane_sbase (s : State) (n : LaneId) (l : Lane) : (s.setLane n l).sbase = s.sbase := rfl
@[simp] theorem State.setLane_bypass (s : State) (n : LaneId) (l : Lane) : (s.setLane n l).bypass = s.bypass := rfl
@[simp] theorem State.setLane_now (s : State) (n : LaneId) (l : Lane) : (s.setLane n l).now = s.now := rfl
@[simp] theorem State.setLane_freeCount (s : State) (n : LaneId) (l : Lane) : (s.setLane n l).freeCount = s.freeCount := rfl
@[simp] theorem State.setLane_host (s : State) (n : LaneId) (l : Lane) : (s.setLane n l).host = s.host := rfl
@[simp] theorem State.setLane_guard (s : State) (n : LaneId) (l : Lane) : (s.setLane n l).guard = s.guard := rfl
@[simp] theorem State.setLane_arb (s : State) (n : LaneId) (l : Lane) : (s.setLane n l).arb = s.arb := rfl
@[simp] theorem State.setLane_dev (s : State) (n : LaneId) (l : Lane) : (s.setLane n l).dev = s.dev := rfl
@[simp] theorem State.setLane_nu (s : State) (n : LaneId) (l : Lane) : (s.setLane n l).nu = s.nu := rfl
@[simp] theorem State.setLane_chans (s : State) (n : LaneId) (l : Lane) : (s.setLane n l).chans = s.chans := rfl
@[simp] theorem State.setLane_lanes (s : State) (n : LaneId) (l : Lane) : (s.setLane n l).lanes = s.lanes.set n l := rfl
@[simp] theorem State.setLane_chan (s : State) (n : LaneId) (l : Lane) (d : ChanId) : (s.setLane n l).chan d = s.chan d := rfl
@[simp] theorem State.setLane_slot (s : State) (n : LaneId) (l : Lane) (d : ChanId) (j : Nat) : (s.setLane n l).slot d j = s.slot d j := rfl

/-! ### setChan -/

@[simp] theorem State.setChan_pending (s : State) (c : ChanId) (ch : Channel) : (s.setChan c ch).pending = s.pending := rfl
@[simp] theorem State.setChan_resetn (s : State) (c : ChanId) (ch : Channel) : (s.setChan c ch).resetn = s.resetn := rfl
@[simp] theorem State.setChan_sbase (s : State) (c : ChanId) (ch : Channel) : (s.setChan c ch).sbase = s.sbase := rfl
@[simp] theorem State.setChan_bypass (s : State) (c : ChanId) (ch : Channel) : (s.setChan c ch).bypass = s.bypass := rfl
@[simp] theorem State.setChan_now (s : State) (c : ChanId) (ch : Channel) : (s.setChan c ch).now = s.now := rfl
@[simp] theorem State.setChan_freeCount (s : State) (c : ChanId) (ch : Channel) : (s.setChan c ch).freeCount = s.freeCount := rfl
@[simp] theorem State.setChan_host (s : State) (c : ChanId) (ch : Channel) : (s.setChan c ch).host = s.host := rfl
@[simp] theorem State.setChan_guard (s : State) (c : ChanId) (ch : Channel) : (s.setChan c ch).guard = s.guard := rfl
@[simp] theorem State.setChan_arb (s : State) (c : ChanId) (ch : Channel) : (s.setChan c ch).arb = s.arb := rfl
@[simp] theorem State.setChan_dev (s : State) (c : ChanId) (ch : Channel) : (s.setChan c ch).dev = s.dev := rfl
@[simp] theorem State.setChan_nu (s : State) (c : ChanId) (ch : Channel) : (s.setChan c ch).nu = s.nu := rfl
@[simp] theorem State.setChan_chans (s : State) (c : ChanId) (ch : Channel) : (s.setChan c ch).chans = s.chans.set c ch := rfl
@[simp] theorem State.setChan_lanes (s : State) (c : ChanId) (ch : Channel) : (s.setChan c ch).lanes = s.lanes := rfl
@[simp] theorem State.setChan_lane (s : State) (c : ChanId) (ch : Channel) (m : LaneId) : (s.setChan c ch).lane m = s.lane m := rfl

/-! ### withHost -/

@[simp] theorem State.withHost_pending (s : State) (h : HostSide) : (s.withHost h).pending = s.pending := rfl
@[simp] theorem State.withHost_resetn (s : State) (h : HostSide) : (s.withHost h).resetn = s.resetn := rfl
@[simp] theorem State.withHost_sbase (s : State) (h : HostSide) : (s.withHost h).sbase = s.sbase := rfl
@[simp] theorem State.withHost_bypass (s : State) (h : HostSide) : (s.withHost h).bypass = s.bypass := rfl
@[simp] theorem State.withHost_now (s : State) (h : HostSide) : (s.withHost h).now = s.now := rfl
@[simp] theorem State.withHost_freeCount (s : State) (h : HostSide) : (s.withHost h).freeCount = s.freeCount := rfl
@[simp] theorem State.withHost_host (s : State) (h : HostSide) : (s.withHost h).host = h := rfl
@[simp] theorem State.withHost_guard (s : State) (h : HostSide) : (s.withHost h).guard = s.guard := rfl
@[simp] theorem State.withHost_arb (s : State) (h : HostSide) : (s.withHost h).arb = s.arb := rfl
@[simp] theorem State.withHost_dev (s : State) (h : HostSide) : (s.withHost h).dev = s.dev := rfl
@[simp] theorem State.withHost_nu (s : State) (h : HostSide) : (s.withHost h).nu = s.nu := rfl
@[simp] theorem State.withHost_chans (s : State) (h : HostSide) : (s.withHost h).chans = s.chans := rfl
@[simp] theorem State.withHost_lanes (s : State) (h : HostSide) : (s.withHost h).lanes = s.lanes := rfl
@[simp] theorem State.withHost_lane (s : State) (h : HostSide) (m : LaneId) : (s.withHost h).lane m = s.lane m := rfl
@[simp] theorem State.withHost_chan (s : State) (h : HostSide) (d : ChanId) : (s.withHost h).chan d = s.chan d := rfl
@[simp] theorem State.withHost_slot (s : State) (h : HostSide) (d : ChanId) (j : Nat) : (s.withHost h).slot d j = s.slot d j := rfl

/-! ### withGuard -/

@[simp] theorem State.withGuard_pending (s : State) (g : GuardState) : (s.withGuard g).pending = s.pending := rfl
@[simp] theorem State.withGuard_resetn (s : State) (g : GuardState) : (s.withGuard g).resetn = s.resetn := rfl
@[simp] theorem State.withGuard_sbase (s : State) (g : GuardState) : (s.withGuard g).sbase = s.sbase := rfl
@[simp] theorem State.withGuard_bypass (s : State) (g : GuardState) : (s.withGuard g).bypass = s.bypass := rfl
@[simp] theorem State.withGuard_now (s : State) (g : GuardState) : (s.withGuard g).now = s.now := rfl
@[simp] theorem State.withGuard_freeCount (s : State) (g : GuardState) : (s.withGuard g).freeCount = s.freeCount := rfl
@[simp] theorem State.withGuard_host (s : State) (g : GuardState) : (s.withGuard g).host = s.host := rfl
@[simp] theorem State.withGuard_guard (s : State) (g : GuardState) : (s.withGuard g).guard = g := rfl
@[simp] theorem State.withGuard_arb (s : State) (g : GuardState) : (s.withGuard g).arb = s.arb := rfl
@[simp] theorem State.withGuard_dev (s : State) (g : GuardState) : (s.withGuard g).dev = s.dev := rfl
@[simp] theorem State.withGuard_nu (s : State) (g : GuardState) : (s.withGuard g).nu = s.nu := rfl
@[simp] theorem State.withGuard_chans (s : State) (g : GuardState) : (s.withGuard g).chans = s.chans := rfl
@[simp] theorem State.withGuard_lanes (s : State) (g : GuardState) : (s.withGuard g).lanes = s.lanes := rfl
@[simp] theorem State.withGuard_lane (s : State) (g : GuardState) (m : LaneId) : (s.withGuard g).lane m = s.lane m := rfl
@[simp] theorem State.withGuard_chan (s : State) (g : GuardState) (d : ChanId) : (s.withGuard g).chan d = s.chan d := rfl
@[simp] theorem State.withGuard_slot (s : State) (g : GuardState) (d : ChanId) (j : Nat) : (s.withGuard g).slot d j = s.slot d j := rfl

/-! ### withArb -/

@[simp] theorem State.withArb_pending (s : State) (a : Arbiter) : (s.withArb a).pending = s.pending := rfl
@[simp] theorem State.withArb_resetn (s : State) (a : Arbiter) : (s.withArb a).resetn = s.resetn := rfl
@[simp] theorem State.withArb_sbase (s : State) (a : Arbiter) : (s.withArb a).sbase = s.sbase := rfl
@[simp] theorem State.withArb_bypass (s : State) (a : Arbiter) : (s.withArb a).bypass = s.bypass := rfl
@[simp] theorem State.withArb_now (s : State) (a : Arbiter) : (s.withArb a).now = s.now := rfl
@[simp] theorem State.withArb_freeCount (s : State) (a : Arbiter) : (s.withArb a).freeCount = s.freeCount := rfl
@[simp] theorem State.withArb_host (s : State) (a : Arbiter) : (s.withArb a).host = s.host := rfl
@[simp] theorem State.withArb_guard (s : State) (a : Arbiter) : (s.withArb a).guard = s.guard := rfl
@[simp] theorem State.withArb_arb (s : State) (a : Arbiter) : (s.withArb a).arb = a := rfl
@[simp] theorem State.withArb_dev (s : State) (a : Arbiter) : (s.withArb a).dev = s.dev := rfl
@[simp] theorem State.withArb_nu (s : State) (a : Arbiter) : (s.withArb a).nu = s.nu := rfl
@[simp] theorem State.withArb_chans (s : State) (a : Arbiter) : (s.withArb a).chans = s.chans := rfl
@[simp] theorem State.withArb_lanes (s : State) (a : Arbiter) : (s.withArb a).lanes = s.lanes := rfl
@[simp] theorem State.withArb_lane (s : State) (a : Arbiter) (m : LaneId) : (s.withArb a).lane m = s.lane m := rfl
@[simp] theorem State.withArb_chan (s : State) (a : Arbiter) (d : ChanId) : (s.withArb a).chan d = s.chan d := rfl
@[simp] theorem State.withArb_slot (s : State) (a : Arbiter) (d : ChanId) (j : Nat) : (s.withArb a).slot d j = s.slot d j := rfl

/-! ### withDev -/

@[simp] theorem State.withDev_pending (s : State) (v : DeviceShadow) : (s.withDev v).pending = s.pending := rfl
@[simp] theorem State.withDev_resetn (s : State) (v : DeviceShadow) : (s.withDev v).resetn = s.resetn := rfl
@[simp] theorem State.withDev_sbase (s : State) (v : DeviceShadow) : (s.withDev v).sbase = s.sbase := rfl
@[simp] theorem State.withDev_bypass (s : State) (v : DeviceShadow) : (s.withDev v).bypass = s.bypass := rfl
@[simp] theorem State.withDev_now (s : State) (v : DeviceShadow) : (s.withDev v).now = s.now := rfl
@[simp] theorem State.withDev_freeCount (s : State) (v : DeviceShadow) : (s.withDev v).freeCount = s.freeCount := rfl
@[simp] theorem State.withDev_host (s : State) (v : DeviceShadow) : (s.withDev v).host = s.host := rfl
@[simp] theorem State.withDev_guard (s : State) (v : DeviceShadow) : (s.withDev v).guard = s.guard := rfl
@[simp] theorem State.withDev_arb (s : State) (v : DeviceShadow) : (s.withDev v).arb = s.arb := rfl
@[simp] theorem State.withDev_dev (s : State) (v : DeviceShadow) : (s.withDev v).dev = v := rfl
@[simp] theorem State.withDev_nu (s : State) (v : DeviceShadow) : (s.withDev v).nu = s.nu := rfl
@[simp] theorem State.withDev_chans (s : State) (v : DeviceShadow) : (s.withDev v).chans = s.chans := rfl
@[simp] theorem State.withDev_lanes (s : State) (v : DeviceShadow) : (s.withDev v).lanes = s.lanes := rfl
@[simp] theorem State.withDev_lane (s : State) (v : DeviceShadow) (m : LaneId) : (s.withDev v).lane m = s.lane m := rfl
@[simp] theorem State.withDev_chan (s : State) (v : DeviceShadow) (d : ChanId) : (s.withDev v).chan d = s.chan d := rfl
@[simp] theorem State.withDev_slot (s : State) (v : DeviceShadow) (d : ChanId) (j : Nat) : (s.withDev v).slot d j = s.slot d j := rfl

/-! ### withNu -/

@[simp] theorem State.withNu_pending (s : State) (x : NoticeUnit) : (s.withNu x).pending = s.pending := rfl
@[simp] theorem State.withNu_resetn (s : State) (x : NoticeUnit) : (s.withNu x).resetn = s.resetn := rfl
@[simp] theorem State.withNu_sbase (s : State) (x : NoticeUnit) : (s.withNu x).sbase = s.sbase := rfl
@[simp] theorem State.withNu_bypass (s : State) (x : NoticeUnit) : (s.withNu x).bypass = s.bypass := rfl
@[simp] theorem State.withNu_now (s : State) (x : NoticeUnit) : (s.withNu x).now = s.now := rfl
@[simp] theorem State.withNu_freeCount (s : State) (x : NoticeUnit) : (s.withNu x).freeCount = s.freeCount := rfl
@[simp] theorem State.withNu_host (s : State) (x : NoticeUnit) : (s.withNu x).host = s.host := rfl
@[simp] theorem State.withNu_guard (s : State) (x : NoticeUnit) : (s.withNu x).guard = s.guard := rfl
@[simp] theorem State.withNu_arb (s : State) (x : NoticeUnit) : (s.withNu x).arb = s.arb := rfl
@[simp] theorem State.withNu_dev (s : State) (x : NoticeUnit) : (s.withNu x).dev = s.dev := rfl
@[simp] theorem State.withNu_nu (s : State) (x : NoticeUnit) : (s.withNu x).nu = x := rfl
@[simp] theorem State.withNu_chans (s : State) (x : NoticeUnit) : (s.withNu x).chans = s.chans := rfl
@[simp] theorem State.withNu_lanes (s : State) (x : NoticeUnit) : (s.withNu x).lanes = s.lanes := rfl
@[simp] theorem State.withNu_lane (s : State) (x : NoticeUnit) (m : LaneId) : (s.withNu x).lane m = s.lane m := rfl
@[simp] theorem State.withNu_chan (s : State) (x : NoticeUnit) (d : ChanId) : (s.withNu x).chan d = s.chan d := rfl
@[simp] theorem State.withNu_slot (s : State) (x : NoticeUnit) (d : ChanId) (j : Nat) : (s.withNu x).slot d j = s.slot d j := rfl

/-! ### setSnd -/

@[simp] theorem State.setSnd_pending (s : State) (n : LaneId) (x : SendSide) : (s.setSnd n x).pending = s.pending := rfl
@[simp] theorem State.setSnd_resetn (s : State) (n : LaneId) (x : SendSide) : (s.setSnd n x).resetn = s.resetn := rfl
@[simp] theorem State.setSnd_sbase (s : State) (n : LaneId) (x : SendSide) : (s.setSnd n x).sbase = s.sbase := rfl
@[simp] theorem State.setSnd_bypass (s : State) (n : LaneId) (x : SendSide) : (s.setSnd n x).bypass = s.bypass := rfl
@[simp] theorem State.setSnd_now (s : State) (n : LaneId) (x : SendSide) : (s.setSnd n x).now = s.now := rfl
@[simp] theorem State.setSnd_freeCount (s : State) (n : LaneId) (x : SendSide) : (s.setSnd n x).freeCount = s.freeCount := rfl
@[simp] theorem State.setSnd_host (s : State) (n : LaneId) (x : SendSide) : (s.setSnd n x).host = s.host := rfl
@[simp] theorem State.setSnd_guard (s : State) (n : LaneId) (x : SendSide) : (s.setSnd n x).guard = s.guard := rfl
@[simp] theorem State.setSnd_arb (s : State) (n : LaneId) (x : SendSide) : (s.setSnd n x).arb = s.arb := rfl
@[simp] theorem State.setSnd_dev (s : State) (n : LaneId) (x : SendSide) : (s.setSnd n x).dev = s.dev := rfl
@[simp] theorem State.setSnd_nu (s : State) (n : LaneId) (x : SendSide) : (s.setSnd n x).nu = s.nu := rfl
@[simp] theorem State.setSnd_chans (s : State) (n : LaneId) (x : SendSide) : (s.setSnd n x).chans = s.chans := rfl
@[simp] theorem State.setSnd_chan (s : State) (n : LaneId) (x : SendSide) (d : ChanId) : (s.setSnd n x).chan d = s.chan d := rfl
@[simp] theorem State.setSnd_slot (s : State) (n : LaneId) (x : SendSide) (d : ChanId) (j : Nat) : (s.setSnd n x).slot d j = s.slot d j := rfl

/-! ### setRcv -/

@[simp] theorem State.setRcv_pending (s : State) (n : LaneId) (x : RecvSide) : (s.setRcv n x).pending = s.pending := rfl
@[simp] theorem State.setRcv_resetn (s : State) (n : LaneId) (x : RecvSide) : (s.setRcv n x).resetn = s.resetn := rfl
@[simp] theorem State.setRcv_sbase (s : State) (n : LaneId) (x : RecvSide) : (s.setRcv n x).sbase = s.sbase := rfl
@[simp] theorem State.setRcv_bypass (s : State) (n : LaneId) (x : RecvSide) : (s.setRcv n x).bypass = s.bypass := rfl
@[simp] theorem State.setRcv_now (s : State) (n : LaneId) (x : RecvSide) : (s.setRcv n x).now = s.now := rfl
@[simp] theorem State.setRcv_freeCount (s : State) (n : LaneId) (x : RecvSide) : (s.setRcv n x).freeCount = s.freeCount := rfl
@[simp] theorem State.setRcv_host (s : State) (n : LaneId) (x : RecvSide) : (s.setRcv n x).host = s.host := rfl
@[simp] theorem State.setRcv_guard (s : State) (n : LaneId) (x : RecvSide) : (s.setRcv n x).guard = s.guard := rfl
@[simp] theorem State.setRcv_arb (s : State) (n : LaneId) (x : RecvSide) : (s.setRcv n x).arb = s.arb := rfl
@[simp] theorem State.setRcv_dev (s : State) (n : LaneId) (x : RecvSide) : (s.setRcv n x).dev = s.dev := rfl
@[simp] theorem State.setRcv_nu (s : State) (n : LaneId) (x : RecvSide) : (s.setRcv n x).nu = s.nu := rfl
@[simp] theorem State.setRcv_chans (s : State) (n : LaneId) (x : RecvSide) : (s.setRcv n x).chans = s.chans := rfl
@[simp] theorem State.setRcv_chan (s : State) (n : LaneId) (x : RecvSide) (d : ChanId) : (s.setRcv n x).chan d = s.chan d := rfl
@[simp] theorem State.setRcv_slot (s : State) (n : LaneId) (x : RecvSide) (d : ChanId) (j : Nat) : (s.setRcv n x).slot d j = s.slot d j := rfl

/-! ### setTurn -/

@[simp] theorem State.setTurn_pending (s : State) (n : LaneId) (x : TurnState) : (s.setTurn n x).pending = s.pending := rfl
@[simp] theorem State.setTurn_resetn (s : State) (n : LaneId) (x : TurnState) : (s.setTurn n x).resetn = s.resetn := rfl
@[simp] theorem State.setTurn_sbase (s : State) (n : LaneId) (x : TurnState) : (s.setTurn n x).sbase = s.sbase := rfl
@[simp] theorem State.setTurn_bypass (s : State) (n : LaneId) (x : TurnState) : (s.setTurn n x).bypass = s.bypass := rfl
@[simp] theorem State.setTurn_now (s : State) (n : LaneId) (x : TurnState) : (s.setTurn n x).now = s.now := rfl
@[simp] theorem State.setTurn_freeCount (s : State) (n : LaneId) (x : TurnState) : (s.setTurn n x).freeCount = s.freeCount := rfl
@[simp] theorem State.setTurn_host (s : State) (n : LaneId) (x : TurnState) : (s.setTurn n x).host = s.host := rfl
@[simp] theorem State.setTurn_guard (s : State) (n : LaneId) (x : TurnState) : (s.setTurn n x).guard = s.guard := rfl
@[simp] theorem State.setTurn_arb (s : State) (n : LaneId) (x : TurnState) : (s.setTurn n x).arb = s.arb := rfl
@[simp] theorem State.setTurn_dev (s : State) (n : LaneId) (x : TurnState) : (s.setTurn n x).dev = s.dev := rfl
@[simp] theorem State.setTurn_nu (s : State) (n : LaneId) (x : TurnState) : (s.setTurn n x).nu = s.nu := rfl
@[simp] theorem State.setTurn_chans (s : State) (n : LaneId) (x : TurnState) : (s.setTurn n x).chans = s.chans := rfl
@[simp] theorem State.setTurn_chan (s : State) (n : LaneId) (x : TurnState) (d : ChanId) : (s.setTurn n x).chan d = s.chan d := rfl
@[simp] theorem State.setTurn_slot (s : State) (n : LaneId) (x : TurnState) (d : ChanId) (j : Nat) : (s.setTurn n x).slot d j = s.slot d j := rfl

/-! ### setSlot -/

@[simp] theorem State.setSlot_pending (s : State) (c : ChanId) (k : Nat) (r : SlotRec) : (s.setSlot c k r).pending = s.pending := rfl
@[simp] theorem State.setSlot_resetn (s : State) (c : ChanId) (k : Nat) (r : SlotRec) : (s.setSlot c k r).resetn = s.resetn := rfl
@[simp] theorem State.setSlot_sbase (s : State) (c : ChanId) (k : Nat) (r : SlotRec) : (s.setSlot c k r).sbase = s.sbase := rfl
@[simp] theorem State.setSlot_bypass (s : State) (c : ChanId) (k : Nat) (r : SlotRec) : (s.setSlot c k r).bypass = s.bypass := rfl
@[simp] theorem State.setSlot_now (s : State) (c : ChanId) (k : Nat) (r : SlotRec) : (s.setSlot c k r).now = s.now := rfl
@[simp] theorem State.setSlot_freeCount (s : State) (c : ChanId) (k : Nat) (r : SlotRec) : (s.setSlot c k r).freeCount = s.freeCount := rfl
@[simp] theorem State.setSlot_host (s : State) (c : ChanId) (k : Nat) (r : SlotRec) : (s.setSlot c k r).host = s.host := rfl
@[simp] theorem State.setSlot_guard (s : State) (c : ChanId) (k : Nat) (r : SlotRec) : (s.setSlot c k r).guard = s.guard := rfl
@[simp] theorem State.setSlot_arb (s : State) (c : ChanId) (k : Nat) (r : SlotRec) : (s.setSlot c k r).arb = s.arb := rfl
@[simp] theorem State.setSlot_dev (s : State) (c : ChanId) (k : Nat) (r : SlotRec) : (s.setSlot c k r).dev = s.dev := rfl
@[simp] theorem State.setSlot_nu (s : State) (c : ChanId) (k : Nat) (r : SlotRec) : (s.setSlot c k r).nu = s.nu := rfl
@[simp] theorem State.setSlot_lanes (s : State) (c : ChanId) (k : Nat) (r : SlotRec) : (s.setSlot c k r).lanes = s.lanes := rfl
@[simp] theorem State.setSlot_lane (s : State) (c : ChanId) (k : Nat) (r : SlotRec) (m : LaneId) : (s.setSlot c k r).lane m = s.lane m := rfl

/-! ### Lanes -/

theorem State.lane_setLane (s : State) (n m : LaneId) (l : Lane) :
    (s.setLane n l).lane m = if n = m then l else s.lane m := by
  simp only [State.lane, State.setLane, Fin.getElem_fin, Vector.getElem_set, Fin.ext_iff]

@[simp] theorem State.lane_setLane_same (s : State) (n : LaneId) (l : Lane) : (s.setLane n l).lane n = l := by
  simp [State.lane_setLane]

theorem State.lane_setLane_of_ne (s : State) {n m : LaneId} (h : m ≠ n) (l : Lane) :
    (s.setLane n l).lane m = s.lane m := by
  simp [State.lane_setLane, h.symm]

/-- Two parts are the same when their lanes are. -/
theorem lanes_ext {v w : Vector Lane 4} (h : ∀ n : LaneId, v[n] = w[n]) : v = w := by
  apply Vector.ext
  intro i hi
  exact h ⟨i, hi⟩

@[simp] theorem State.setLane_setLane (s : State) (n : LaneId) (l m : Lane) :
    (s.setLane n l).setLane n m = s.setLane n m := by
  simp [State.setLane]

@[simp] theorem State.setLane_lane (s : State) (n : LaneId) : s.setLane n (s.lane n) = s := by
  simp [State.setLane, State.lane]

@[simp] theorem State.setSnd_lane_same (s : State) (n : LaneId) (x : SendSide) :
    (s.setSnd n x).lane n = { s.lane n with snd := x } := by simp [State.setSnd]

@[simp] theorem State.setRcv_lane_same (s : State) (n : LaneId) (x : RecvSide) :
    (s.setRcv n x).lane n = { s.lane n with rcv := x } := by simp [State.setRcv]

@[simp] theorem State.setTurn_lane_same (s : State) (n : LaneId) (x : TurnState) :
    (s.setTurn n x).lane n = { s.lane n with turn := x } := by simp [State.setTurn]

theorem State.setSnd_lane (s : State) (n m : LaneId) (x : SendSide) :
    (s.setSnd n x).lane m = if n = m then { s.lane n with snd := x } else s.lane m := State.lane_setLane ..

theorem State.setRcv_lane (s : State) (n m : LaneId) (x : RecvSide) :
    (s.setRcv n x).lane m = if n = m then { s.lane n with rcv := x } else s.lane m := State.lane_setLane ..

theorem State.setTurn_lane (s : State) (n m : LaneId) (x : TurnState) :
    (s.setTurn n x).lane m = if n = m then { s.lane n with turn := x } else s.lane m := State.lane_setLane ..

@[simp] theorem State.setRcv_setRcv (s : State) (n : LaneId) (x y : RecvSide) :
    (s.setRcv n x).setRcv n y = s.setRcv n y := by simp [State.setRcv]

@[simp] theorem State.setSnd_setSnd (s : State) (n : LaneId) (x y : SendSide) :
    (s.setSnd n x).setSnd n y = s.setSnd n y := by simp [State.setSnd]

@[simp] theorem State.setRcv_rcv (s : State) (n : LaneId) : s.setRcv n (s.lane n).rcv = s :=
  State.setLane_lane s n

@[simp] theorem State.setSnd_snd (s : State) (n : LaneId) : s.setSnd n (s.lane n).snd = s :=
  State.setLane_lane s n

/-! ### Channels and slots -/

theorem State.chan_setChan (s : State) (c d : ChanId) (ch : Channel) :
    (s.setChan c ch).chan d = if c = d then ch else s.chan d := by
  simp only [State.chan, State.setChan, Fin.getElem_fin, Vector.getElem_set, Fin.ext_iff]

@[simp] theorem State.chan_setChan_same (s : State) (c : ChanId) (ch : Channel) : (s.setChan c ch).chan c = ch := by
  simp [State.chan_setChan]

theorem State.chan_setChan_of_ne (s : State) {c d : ChanId} (h : d ≠ c) (ch : Channel) :
    (s.setChan c ch).chan d = s.chan d := by
  simp [State.chan_setChan, h.symm]

/-- Two channel tables are the same when their channels are. -/
theorem chans_ext {v w : Vector Channel 8} (h : ∀ c : ChanId, v[c] = w[c]) : v = w := by
  apply Vector.ext
  intro i hi
  exact h ⟨i, hi⟩

@[simp] theorem State.setChan_setChan (s : State) (c : ChanId) (x y : Channel) :
    (s.setChan c x).setChan c y = s.setChan c y := by
  simp [State.setChan]

@[simp] theorem State.setChan_chan (s : State) (c : ChanId) : s.setChan c (s.chan c) = s := by
  simp [State.setChan, State.chan]

@[simp] theorem State.setSlot_chan_same (s : State) (c : ChanId) (k : Nat) (r : SlotRec) :
    (s.setSlot c k r).chan c = { s.chan c with slots := (s.chan c).slots.set k r } := by simp [State.setSlot]

theorem State.setSlot_chan (s : State) (c d : ChanId) (k : Nat) (r : SlotRec) :
    (s.setSlot c k r).chan d = if c = d then { s.chan c with slots := (s.chan c).slots.set k r } else s.chan d :=
  State.chan_setChan ..

/-- What a slot holds after one of its channel's slots is set. -/
theorem Channel.slot_set (ch : Channel) (j k : Nat) (r : SlotRec) :
    Channel.slot { ch with slots := ch.slots.set j r } k =
      if j = k ∧ k < ch.slots.length then r else ch.slot k := by
  simp only [Channel.slot, List.getD_eq_getElem?_getD, List.getElem?_set]
  by_cases h : j = k
  · subst h
    by_cases h2 : j < ch.slots.length
    · simp [h2]
    · simp [h2]
  · simp [h]

/-- Lanes and channels are set independently. -/
theorem State.setLane_setChan (s : State) (n : LaneId) (l : Lane) (c : ChanId) (ch : Channel) :
    (s.setLane n l).setChan c ch = (s.setChan c ch).setLane n l := rfl

end Sys2Proof.Machine
end

