-- ==== Sys2Proof/Laws/Ops.lean ====
section
/-! SUPPORT. One lemma for each shared operation, saying once what it can do: notices, counts, wakes, freed slots, timers, and
the arbiter's two decisions. Later proofs cite these and do not unfold the operations. -/

namespace Sys2Proof.Machine

/-! ### Timers -/

theorem startLaneTimer_eq_deadline (now : Nat) (limit : BitVec 8) : startLaneTimer now limit = deadline now limit := by
  simp [startLaneTimer, deadline, Nat.mul_comm]

theorem timerDue_some (now d : Nat) : timerDue now (some d) = decide (d ≤ now) := rfl

theorem timerDue_none (now : Nat) : timerDue now none = false := rfl

/-! ### Notices -/

/-- An idle writer with a notice and room presents word 0; nothing else changes. -/
theorem State.startWriter_eq (s : State) : s.startWriter = { s with nu := { s.nu with
    writer := if s.nu.writer = .idle ∧ s.nu.list ≠ [] ∧ (s.nu.prod - s.nu.cons).toNat < ringRecords s.dev.ringSize
      then .word0Waiting else s.nu.writer } } := by
  unfold State.startWriter State.writerReady NoticeUnit.occupancy State.withNu
  by_cases h : s.nu.writer = .idle ∧ s.nu.list ≠ [] ∧ (s.nu.prod - s.nu.cons).toNat < ringRecords s.dev.ringSize
  · rw [if_pos h, if_pos]
    obtain ⟨h1, h2, h3⟩ := h
    rw [h1, decide_eq_true h3]
    cases hl : s.nu.list
    · exact absurd hl h2
    · rfl
  · rw [if_neg h, if_neg]
    intro hc
    rw [Bool.and_eq_true, Bool.and_eq_true] at hc
    obtain ⟨⟨h1, h2⟩, h3⟩ := hc
    exact h ⟨eq_of_beq h1, fun hl => (by rw [hl] at h2; exact Bool.noConfusion h2), of_decide_eq_true h3⟩

/-- Generating a notice changes the notice unit alone, as `reported` says. -/
theorem State.generate_eq (s : State) (kind : NoticeKind) (source slot seq : Byte) (detail : BitVec 16) :
    s.generate kind source slot seq detail = { s with nu := s.reported true kind source slot seq detail } := by
  unfold State.generate State.reported NoticeUnit.take
  by_cases h : s.dev.ringSize = 0
  · rw [if_pos h, if_neg (fun hc => hc.2 h)]
  · have hg : true = true ∧ s.dev.ringSize ≠ 0 := ⟨rfl, h⟩
    by_cases h2 : s.nu.list.length < 8
    · rw [if_neg h, if_pos h2, if_pos hg, if_neg (Nat.not_le.mpr h2), State.startWriter_eq]
      simp only [State.withNu, ne_eq, List.append_eq_nil_iff, List.cons_ne_self, and_false, not_false_eq_true, true_and]
    · rw [if_neg h, if_neg h2, if_pos hg, if_pos (Nat.not_lt.mp h2)]
      rfl

/-- A channel notice changes the notice unit alone, behind its channel's gate. -/
theorem State.chanNotice_eq (s : State) (c : ChanId) (kind : NoticeKind) (slot seq : Byte) (detail : BitVec 16) :
    s.chanNotice c kind slot seq detail =
      { s with nu := s.reported ((s.chan c).enabled kind) kind (chanSource c) slot seq detail } := by
  unfold State.chanNotice
  by_cases h : (s.chan c).enabled kind = true
  · simp [h, State.generate_eq]
  · simp [h, State.reported]

/-- A notice whose gate is closed leaves the unit as it is. -/
@[simp] theorem State.reported_false (s : State) (kind : NoticeKind) (source slot seq : Byte) (detail : BitVec 16) :
    s.reported false kind source slot seq detail = s.nu := by
  simp [State.reported]

/-- A notice depends on the unit and on RING_SIZE alone. -/
theorem State.reported_congr {s t : State} (h : s.nu = t.nu) (h2 : s.dev.ringSize = t.dev.ringSize) (gate : Bool)
    (kind : NoticeKind) (source slot seq : Byte) (detail : BitVec 16) :
    s.reported gate kind source slot seq detail = t.reported gate kind source slot seq detail := by
  simp [State.reported, h, h2]

theorem State.setupRejected_eq (s : State) (source : Byte) (reason : BitVec 16) :
    s.setupRejected source reason =
      { s with nu := s.reported true .setupRejected source 0xFF 0 reason } := State.generate_eq ..

/-! ### Wakes and freed slots -/

/-- A wake changes the host port alone. -/
theorem State.wake_eq (s : State) (p : HeldWrite → Bool) : s.wake p = { s with host := (s.wake p).host } := by
  unfold State.wake
  split
  · split <;> rfl
  · rfl

/-- A wake returns a held write to HP_WAITING, or does nothing. -/
theorem State.wake_cases (s : State) (p : HeldWrite → Bool) :
    (∃ r h, s.host.port = .held r ∧ s.guard.held = some h ∧ p h = true ∧
      s.wake p = s.withHost { s.host with port := .waiting r }) ∨ s.wake p = s := by
  unfold State.wake
  split
  · rename_i r h h1 h2
    by_cases hp : p h = true
    · exact .inl ⟨r, h, h1, h2, hp, by simp [hp]⟩
    · exact .inr (by simp [hp])
  · exact .inr rfl

/-- Nothing is woken while no write is in HP_HELD. -/
theorem State.wake_of_not_held (s : State) (p : HeldWrite → Bool) (h : ∀ r, s.host.port ≠ .held r) : s.wake p = s := by
  rcases State.wake_cases s p with ⟨r, _, h1, _⟩ | h2
  · exact absurd h1 (h r)
  · exact h2

theorem State.freeSlot_eq (s : State) (c : ChanId) (k : Nat) :
    s.freeSlot c k = (s.setSlot c k SlotRec.free).wakeSlot c k := rfl

/-! ### The arbiter's decisions -/

/-- The circle from any pointer holds every position. -/
theorem mem_circleFrom (rr p : Fin 9) : p ∈ circleFrom rr := by revert rr p; decide

/-- Something holds of an internal requester exactly when it holds at a position of the circle. -/
theorem any_internalRequesters (f : Requester → Bool) :
    internalRequesters.any f = true ↔ ∃ p : Fin 9, f (requesterAt p) = true := by
  unfold internalRequesters
  simp only [List.any_cons, List.any_nil, Bool.or_eq_true, Bool.or_false]
  constructor
  · intro h
    rcases h with h | h | h | h | h | h | h | h | h
    · exact ⟨0, h⟩
    · exact ⟨1, h⟩
    · exact ⟨2, h⟩
    · exact ⟨3, h⟩
    · exact ⟨4, h⟩
    · exact ⟨5, h⟩
    · exact ⟨6, h⟩
    · exact ⟨7, h⟩
    · exact ⟨8, h⟩
  · intro ⟨p, h⟩
    match p, h with
    | 0, h => exact .inl h
    | 1, h => exact .inr (.inl h)
    | 2, h => exact .inr (.inr (.inl h))
    | 3, h => exact .inr (.inr (.inr (.inl h)))
    | 4, h => exact .inr (.inr (.inr (.inr (.inl h))))
    | 5, h => exact .inr (.inr (.inr (.inr (.inr (.inl h)))))
    | 6, h => exact .inr (.inr (.inr (.inr (.inr (.inr (.inl h))))))
    | 7, h => exact .inr (.inr (.inr (.inr (.inr (.inr (.inr (.inl h)))))))
    | 8, h => exact .inr (.inr (.inr (.inr (.inr (.inr (.inr (.inr h)))))))

/-- The circle from any pointer and the list of the internal requesters see the same. -/
theorem any_circleFrom (rr : Fin 9) (f : Requester → Bool) :
    ((circleFrom rr).any fun p => f (requesterAt p)) = internalRequesters.any f := by
  rw [Bool.eq_iff_iff, any_internalRequesters, List.any_eq_true]
  exact ⟨fun ⟨p, _, h⟩ => ⟨p, h⟩, fun ⟨p, h⟩ => ⟨p, mem_circleFrom _ p, h⟩⟩

/-- The arbiter sees a standing internal request exactly when one stands. -/
theorem State.internalStands_eq (s : State) : s.internalStands = s.internalStanding := any_circleFrom _ _

/-- The arbiter sees a joining internal request exactly when one joins. -/
theorem State.internalJoins_eq (s : State) : s.internalJoins = s.internalJoining := any_circleFrom _ _

/-- The arbiter sees a contending internal request exactly when one contends. -/
theorem State.internalContends_eq (s : State) : s.internalContends = s.internalContending := any_circleFrom _ _

/-! ### The contenders of a decision -/

/-- The list of the requesters holds every requester. -/
theorem mem_allRequesters (who : Requester) : who ∈ allRequesters := by
  cases who with
  | host => decide
  | notice => decide
  | send n => revert n; decide
  | recv n => revert n; decide

/-- The requesters that ask are those with a request presented. -/
theorem State.mem_asking (s : State) (who : Requester) : who ∈ s.asking ↔ s.presented who = true := by
  simp [State.asking, mem_allRequesters]

/-- Where the port became FREE at the last change of the requests, those presented before stand and the others join. -/
theorem State.contenders_opened {s : State} {standing : List Requester} (h : s.arb.contest = .opened standing)
    (who : Requester) :
    s.stands who = (s.presented who && standing.contains who) ∧
      s.joins who = (s.presented who && !standing.contains who) ∧ s.alone who = false := by
  simp only [State.stands, State.joins, State.alone, State.contenders, h]
  refine ⟨?_, ?_, rfl⟩ <;> rw [Bool.eq_iff_iff] <;> simp [State.mem_asking, and_comm]

/-- Contenders found earlier contend as long as one of them is still presented. -/
theorem State.contenders_recorded {s : State} {found : Contenders} (h : s.arb.contest = .recorded found)
    (h2 : found.still s ≠ .none) (who : Requester) :
    s.stands who = (found.standing.contains who && s.presented who) ∧
      s.joins who = (found.joining.contains who && s.presented who) ∧
      s.alone who = (found.alone.contains who && s.presented who) := by
  simp only [State.stands, State.joins, State.alone, State.contenders, h, if_neg h2]
  refine ⟨?_, ?_, ?_⟩ <;> rw [Bool.eq_iff_iff] <;> simp [Contenders.still]

/-- With no contender found earlier still presented, each request at the FREE port is alone. -/
theorem State.contenders_none {s : State} {found : Contenders} (h : s.arb.contest = .recorded found)
    (h2 : found.still s = .none) (who : Requester) :
    s.stands who = false ∧ s.joins who = false ∧ s.alone who = s.presented who := by
  simp only [State.stands, State.joins, State.alone, State.contenders, h, if_pos h2]
  refine ⟨rfl, rfl, ?_⟩
  rw [Bool.eq_iff_iff]
  simp [State.mem_asking]

/-- A contender has its request presented. -/
theorem State.presented_of_contends {s : State} {who : Requester} (h : s.contends who = true) :
    s.presented who = true := by
  unfold State.contends at h
  cases hc : s.arb.contest with
  | opened standing =>
    obtain ⟨h1, h2, h3⟩ := State.contenders_opened hc who
    revert h; rw [h1, h2, h3]; cases s.presented who <;> simp
  | recorded found =>
    by_cases hf : found.still s = .none
    · obtain ⟨h1, h2, h3⟩ := State.contenders_none hc hf who
      revert h; rw [h1, h2, h3]; simp
    · obtain ⟨h1, h2, h3⟩ := State.contenders_recorded hc hf who
      revert h; rw [h1, h2, h3]; cases s.presented who <;> simp

/-- Where a request is presented, some request contends. -/
theorem State.exists_contends {s : State} {who : Requester} (h : s.presented who = true) :
    ∃ w, s.contends w = true := by
  unfold State.contends
  cases hc : s.arb.contest with
  | opened standing =>
    obtain ⟨h1, h2, h3⟩ := State.contenders_opened hc who
    exact ⟨who, by rw [h1, h2, h3, h]; cases standing.contains who <;> rfl⟩
  | recorded found =>
    by_cases hf : found.still s = .none
    · obtain ⟨h1, h2, h3⟩ := State.contenders_none hc hf who
      exact ⟨who, by rw [h1, h2, h3, h]; rfl⟩
    · by_contra hn
      apply hf
      have hall : ∀ w, (found.standing.contains w || found.joining.contains w || found.alone.contains w) = true →
          s.presented w = false := by
        intro w hw
        by_contra hp
        obtain ⟨h1, h2, h3⟩ := State.contenders_recorded hc hf w
        refine hn ⟨w, ?_⟩
        rw [h1, h2, h3, Bool.eq_true_of_not_eq_false hp]
        simpa using hw
      simp only [Contenders.still, Contenders.none, Contenders.mk.injEq, List.filter_eq_nil_iff]
      refine ⟨?_, ?_, ?_⟩ <;> intro w hw <;> simp [hall w (by simp [hw])]

/-- An event keeps all it does but what the contest is. -/
theorem State.noting_eq (s t : State) :
    s.noting t = t.withArb { t.arb with contest := (s.noting t).arb.contest } := by
  unfold State.noting
  split <;> rfl

/-- An event that changes no request notes nothing. -/
theorem State.noting_of_same {s t : State} (h : ∀ who, t.presented who = s.presented who) : s.noting t = t := by
  unfold State.noting
  rw [if_neg]
  simp [h]

/-- While the port is BUSY nothing is noted. -/
theorem State.noting_of_busy {s t : State} (h : s.arb.port ≠ none) : s.noting t = t := by
  unfold State.noting
  rw [if_neg]
  cases hp : s.arb.port with
  | none => exact absurd hp h
  | some _ => simp

/-- An event that changes the requests at a FREE port keeps the contenders found before it. -/
theorem State.noting_of_changed {s t : State} {who : Requester} (h : s.arb.port = none)
    (h2 : s.presented who ≠ t.presented who) :
    s.noting t = t.withArb { t.arb with contest := .recorded s.contenders } := by
  unfold State.noting
  rw [if_pos]
  simp only [h, Option.isNone_none, Bool.true_and, List.any_eq_true, bne_iff_ne]
  exact ⟨who, mem_allRequesters who, h2⟩

@[simp] theorem State.noting_self (s : State) : s.noting s = s := State.noting_of_same fun _ => rfl
@[simp] theorem State.noting_host (s t : State) : (s.noting t).host = t.host := by rw [State.noting_eq]; rfl
@[simp] theorem State.noting_guard (s t : State) : (s.noting t).guard = t.guard := by rw [State.noting_eq]; rfl
@[simp] theorem State.noting_dev (s t : State) : (s.noting t).dev = t.dev := by rw [State.noting_eq]; rfl
@[simp] theorem State.noting_nu (s t : State) : (s.noting t).nu = t.nu := by rw [State.noting_eq]; rfl
@[simp] theorem State.noting_chans (s t : State) : (s.noting t).chans = t.chans := by rw [State.noting_eq]; rfl
@[simp] theorem State.noting_lanes (s t : State) : (s.noting t).lanes = t.lanes := by rw [State.noting_eq]; rfl
@[simp] theorem State.noting_lane (s t : State) (n : LaneId) : (s.noting t).lane n = t.lane n := by
  rw [State.noting_eq]; rfl
@[simp] theorem State.noting_chan (s t : State) (c : ChanId) : (s.noting t).chan c = t.chan c := by
  rw [State.noting_eq]; rfl
@[simp] theorem State.noting_slot (s t : State) (c : ChanId) (k : Nat) : (s.noting t).slot c k = t.slot c k := by
  rw [State.noting_eq]; rfl
@[simp] theorem State.noting_pending (s t : State) : (s.noting t).pending = t.pending := by rw [State.noting_eq]; rfl
@[simp] theorem State.noting_resetn (s t : State) : (s.noting t).resetn = t.resetn := by rw [State.noting_eq]; rfl
@[simp] theorem State.noting_sbase (s t : State) : (s.noting t).sbase = t.sbase := by rw [State.noting_eq]; rfl
@[simp] theorem State.noting_bypass (s t : State) : (s.noting t).bypass = t.bypass := by rw [State.noting_eq]; rfl
@[simp] theorem State.noting_now (s t : State) : (s.noting t).now = t.now := by rw [State.noting_eq]; rfl
@[simp] theorem State.noting_freeCount (s t : State) : (s.noting t).freeCount = t.freeCount := by
  rw [State.noting_eq]; rfl
@[simp] theorem State.noting_port (s t : State) : (s.noting t).arb.port = t.arb.port := by rw [State.noting_eq]; rfl
@[simp] theorem State.noting_rr (s t : State) : (s.noting t).arb.rr = t.arb.rr := by rw [State.noting_eq]; rfl
@[simp] theorem State.noting_patienceCtr (s t : State) : (s.noting t).arb.patienceCtr = t.arb.patienceCtr := by
  rw [State.noting_eq]; rfl
@[simp] theorem State.noting_presented (s t : State) (who : Requester) :
    (s.noting t).presented who = t.presented who := by
  rw [State.noting_eq]; rfl

/-! ### Grants -/

/-- A granted host access wins the arbiter's decision. -/
theorem hostWins_of_granted {s : State} {r : HostRecord} (h : HostGranted s r) : s.hostWins = true := by
  obtain ⟨_, h2, h3, h4⟩ := h
  simp only [State.hostWins, State.hostPreferred, State.internalStands_eq, h2, h3]
  rcases h4 with h4 | h4 <;> simp [h4]

/-- Free values are drawn by their count alone. -/
theorem State.drawFree_eq (s : State) (b : Bool) :
    s.drawFree b = { s with freeCount := if b then s.freeCount + 1 else s.freeCount } := by cases b <;> rfl

/-- A host grant leaves the arbiter and the count of free values that the claims name. -/
theorem State.countPatience_eq (s : State) :
    s.countPatience = { s with arb := s.granted.arb, freeCount := s.granted.freeCount } := by
  unfold State.countPatience State.granted State.mayCount State.drawFree
  rw [State.internalStands_eq, State.internalJoins_eq]
  cases s.internalStanding <;> cases s.internalJoining <;>
    by_cases hp : s.arb.patienceCtr < s.dev.patience <;> cases Config.takenInTime s.freeCount <;>
    simp [hp, State.withArb, allRequesters, internalRequesters]

/-- A completion leaves the arbiter that the claims name. -/
theorem State.freePort_eq (s : State) : s.freePort = s.withArb s.freedArb := rfl

/-- An internal grant goes to a position whose request contends. -/
theorem State.contends_of_candidates (s : State) {p : Fin 9} (h : p ∈ s.candidates) :
    s.contends (requesterAt p) = true := by
  simp only [State.candidates, List.mem_append, Option.mem_toList] at h
  rcases h with h | h
  · exact (List.mem_filter.1 (List.takeWhile_sublist _ |>.mem h)).2
  · exact (List.mem_filter.1 (List.mem_of_find?_eq_some h)).2

/-- The position that an internal grant goes to is a candidate. -/
theorem State.nextInternal_mem {s : State} {p : Fin 9} (h : s.nextInternal = some p) : p ∈ s.candidates := by
  unfold State.nextInternal at h
  split at h
  · cases h
  · rename_i q hq
    cases h
    simp [hq]
  · rename_i q rest _ hq
    cases h
    rw [hq, List.getD_eq_getElem _ _ (Nat.mod_lt _ (by simp))]
    exact List.getElem_mem _

/-- With an internal request that contends there is a position to grant. -/
theorem State.nextInternal_isSome {s : State} (h : s.internalContending = true) : ∃ p, s.nextInternal = some p := by
  have hne : s.candidates ≠ [] := by
    obtain ⟨p, hp⟩ := (any_internalRequesters _).1 h
    intro hc
    simp only [State.candidates, List.append_eq_nil_iff, Option.toList_eq_nil_iff, List.find?_eq_none] at hc
    obtain ⟨h1, h2⟩ := hc
    have hm : p ∈ (circleFrom s.arb.rr).filter fun p => s.contends (requesterAt p) :=
      List.mem_filter.2 ⟨mem_circleFrom _ p, hp⟩
    cases hl : (circleFrom s.arb.rr).filter fun p => s.contends (requesterAt p) with
    | nil => rw [hl] at hm; cases hm
    | cons q rest =>
      rw [hl] at h1 h2
      have := h2 q (by simp)
      simp [this] at h1
  unfold State.nextInternal
  split
  · contradiction
  · exact ⟨_, rfl⟩
  · exact ⟨_, rfl⟩

/-- The circle from a pointer runs by distance from it. -/
theorem circleFrom_pairwise (rr : Fin 9) : (circleFrom rr).Pairwise fun p q => (p - rr).val ≤ (q - rr).val := by
  revert rr; decide

/-- No candidate lies behind a requester whose request stands. -/
theorem State.candidates_first {s : State} {p q : Fin 9} (hp : p ∈ s.candidates) (hq : s.stands (requesterAt q) = true) :
    (p - s.arb.rr).val ≤ (q - s.arb.rr).val := by
  have hpw := (circleFrom_pairwise s.arb.rr).filter fun p => s.contends (requesterAt p)
  have hqp : s.contends (requesterAt q) = true := by simp [State.contends, hq]
  have hqm : q ∈ (circleFrom s.arb.rr).filter fun p => s.contends (requesterAt p) :=
    List.mem_filter.2 ⟨mem_circleFrom _ q, hqp⟩
  unfold State.candidates at hp
  generalize (circleFrom s.arb.rr).filter (fun p => s.contends (requesterAt p)) = l at hpw hqm hp
  induction l with
  | nil => cases hqm
  | cons a l ih =>
    rw [List.pairwise_cons] at hpw
    by_cases ha : s.stands (requesterAt a) = true
    · simp [ha] at hp
      subst hp
      rcases List.mem_cons.1 hqm with h | h
      · subst h; exact le_refl _
      · exact hpw.1 q h
    · have hqa : q ≠ a := by rintro rfl; exact ha hq
      have hql : q ∈ l := (List.mem_cons.1 hqm).resolve_left hqa
      simp [ha] at hp
      rcases hp with h | h
      · subst h; exact hpw.1 q hql
      · exact ih hpw.2 hql (by simpa using h)

/-- A command that is the grant of the waiting access makes that grant. -/
theorem grantWhen_of_granted {s : State} {r : HostRecord} (h : HostGranted s r) {p : State → HostRecord → Bool}
    (hp : p s r = true) (pins : Pins) : s.grantWhen p pins = s.countPatience.grantAccess pins r := by
  unfold State.grantWhen
  simp [h.1, hostWins_of_granted h, hp]

/-- A command that is not the grant of the waiting access is no event. -/
theorem grantWhen_of_not {s : State} {r : HostRecord} (h : s.host.port = .waiting r) {p : State → HostRecord → Bool}
    (hp : p s r = false) (pins : Pins) : s.grantWhen p pins = s := by
  unfold State.grantWhen
  simp [h, hp]

/-- A grant command makes the host grant or is no event. -/
theorem grantWhen_cases (s : State) (p : State → HostRecord → Bool) (pins : Pins) :
    (∃ r, s.host.port = .waiting r ∧ s.hostWins = true ∧ p s r = true ∧
      s.grantWhen p pins = s.countPatience.grantAccess pins r) ∨ s.grantWhen p pins = s := by
  unfold State.grantWhen
  split
  · rename_i r h
    by_cases h2 : (s.hostWins && p s r) = true
    · have h3 := h2
      rw [Bool.and_eq_true] at h3
      exact .inl ⟨r, h, h3.1, h3.2, by rw [if_pos h2]⟩
    · exact .inr (by rw [if_neg h2])
  · exact .inr rfl

/-- The start of a host memory cycle, in the terms of the claims. -/
theorem State.memoryCycle_eq (s : State) (r : HostRecord) (cyc : HostCycle) :
    s.memoryCycle r cyc = s.withCycle ⟨s.arb, s.freeCount⟩ r cyc := rfl

/-- A performed slot write ends what the guard held of it and starts its cycle (R9, R82). -/
theorem State.performWrite_eq (s : State) (r : HostRecord) (herr : Bool) :
    s.performWrite r herr = { s with guard := ⟨none, none⟩ }.withCycle ⟨s.arb, s.freeCount⟩ r
      ⟨false, herr, none, none⟩ := rfl

end Sys2Proof.Machine
end

