-- ==== Sys2Proof/Laws/Lanes.lean ====
section
/-! SUPPORT. What each shared operation of a lane leaves, in the terms of the claims: starts, failures, completions, drops, and
the turn. One lemma for each operation; later proofs cite these and do not unfold the operations. -/

namespace Sys2Proof.Machine

/-! ### Wakes depend on little -/

/-- What a wake for a slot does to the host port depends on the host port and the guard alone. -/
theorem State.wakeSlot_host_congr {s t : State} (h1 : s.host = t.host) (h2 : s.guard = t.guard) (c : ChanId) (k : Nat) :
    (s.wakeSlot c k).host = (t.wakeSlot c k).host := by
  unfold State.wakeSlot State.wake
  rw [h1, h2]
  split
  · split
    · simp only [State.withHost_host]
    · exact h1
  · exact h1

/-- A wake for a slot changes the host port alone. -/
theorem State.wakeSlot_eq (s : State) (c : ChanId) (k : Nat) :
    s.wakeSlot c k = { s with host := (s.wakeSlot c k).host } := State.wake_eq ..

/-- A wake for a queue changes the host port alone. -/
theorem State.wakeQueue_eq (s : State) (n : LaneId) : s.wakeQueue n = { s with host := (s.wakeQueue n).host } :=
  State.wake_eq ..

/-! ### The send side -/

/-- Presenting a read changes the mover alone (R114). -/
theorem SendSide.present_some (x : SendSide) (r : SendRecord) (h : x.cur = some r) :
    x.present = { x with
      mover := if x.mover = .none ∧ x.tx.length + 4 ≤ 16 ∧ r.read < r.len then .waiting else x.mover } := by
  unfold SendSide.present
  simp only [h]
  split
  · rfl
  · rw [← h]

/-- With no current record nothing is presented (R114). -/
theorem SendSide.present_none (x : SendSide) (h : x.cur = none) : x.present = x := by
  unfold SendSide.present
  rw [h]

/-- A start takes the head entry (R110). -/
theorem State.startHead_eq (s : State) (n : LaneId) (e : QueueEntry) (rest : List QueueEntry)
    (h1 : (s.lane n).snd.queue = e :: rest) (h2 : (s.lane n).snd.cur = none) (h3 : (s.lane n).snd.strobe = none) :
    s.startHead n = s.started n e rest := by
  unfold State.startHead State.started
  simp only [h1, h2, h3]
  rw [SendSide.present_some _ ⟨e.chan, e.slot, (s.slot e.chan e.slot).len, 0, 0, true⟩ rfl, startLaneTimer_eq_deadline]
  simp only [SendSide.offer, List.length_nil, Nat.zero_add, Nat.reduceLeDiff, true_and, routeByte]

/-- Nothing starts from an empty queue, over a current record, or through an abort strobe (R109). -/
theorem State.startHead_none (s : State) (n : LaneId)
    (h : (s.lane n).snd.queue = [] ∨ (s.lane n).snd.cur ≠ none ∨ (s.lane n).snd.strobe ≠ none) : s.startHead n = s := by
  unfold State.startHead
  dsimp only
  split
  · rename_i h1 h2 h3
    rcases h with h | h | h
    · rw [h1] at h; cases h
    · exact absurd h2 h
    · exact absurd h3 h
  · rfl

/-- A mover whose record ends is withdrawn or orphaned. -/
theorem Mover.endRecord_eq (m : Mover) :
    m.endRecord = if m = .busy ∨ m = .orphaned then .orphaned else .none := by cases m <;> rfl

/-- A record that fails (R118, R119). -/
theorem State.failRecord_eq (s : State) (n : LaneId) (r : SendRecord) (detail : BitVec 16) :
    s.failRecord n r detail = s.sendFailed n r (s.lane n).snd.mover.endRecord detail := by
  unfold State.failRecord State.sendFailed SendSide.abandon
  dsimp only
  rw [State.wakeSlot_eq, State.chanNotice_eq]
  simp only [State.countFault, State.setSlot, State.setSnd, State.setLane, State.setChan, State.chan, State.slot,
    Channel.enabled, NoticeKind.enableBit, Vector.set_set, Vector.getElem_set_self, Fin.getElem_fin, State.reported, chanSource]
  congr 1
  apply State.wakeSlot_host_congr <;> rfl

/-- The record is complete: what the send side and the slot are before the lane goes on (R117). -/
theorem State.recordSent_eq (s : State) (n : LaneId) (r : SendRecord) :
    (s.setSnd n { (s.lane n).snd with takePulse := none }).recordSent n r = (s.sendDone n r).sendSideFree n := by
  unfold State.recordSent State.sendDone State.freeSlot
  dsimp only
  rw [State.wakeSlot_eq, State.chanNotice_eq]
  congr 1
  simp only [State.countDone, State.setSlot, State.setSnd, State.setLane, State.setChan, State.chan, State.slot, State.lane,
    Channel.enabled, NoticeKind.enableBit, Vector.set_set, Vector.getElem_set_self, Fin.getElem_fin, State.reported, chanSource,
    SlotRec.free]
  congr 1
  apply State.wakeSlot_host_congr <;> rfl

/-! ### The turn -/

theorem State.grantIn_eq (s : State) (n : LaneId) : s.grantIn n = s.takesIn n := by
  unfold State.grantIn State.takesIn
  simp only [startLaneTimer_eq_deadline]

/-- T_OUT with the start of the head entry (R101). -/
theorem State.grantOut_eq (s : State) (n : LaneId) (e : QueueEntry) (rest : List QueueEntry)
    (h1 : (s.lane n).snd.queue = e :: rest) (h2 : (s.lane n).snd.cur = none) (h3 : (s.lane n).snd.strobe = none) :
    s.grantOut n = s.takesOut n e rest := by
  unfold State.grantOut State.takesOut
  apply State.startHead_eq <;> simp only [State.setTurn_lane_same, h1, h2, h3]

/-- A turn's end, and then the arbiter's decision (R100). -/
theorem State.endTurn_eq (s : State) (n : LaneId) (d : Direction) : s.endTurn n d = (s.turnOver n d).decideTurn n := by
  unfold State.endTurn State.turnOver
  cases d <;> rfl

/-- Off DUPLEX, or with a turn granted, the arbiter decides nothing (R100). -/
theorem State.decideTurn_none (s : State) (n : LaneId) (h : (s.lane n).mode ≠ .duplex ∨ (s.lane n).turn.turn ≠ .idle) :
    s.decideTurn n = s := by
  unfold State.decideTurn
  dsimp only
  rw [if_neg]
  rintro ⟨h1, h2⟩
  rcases h with h | h
  · exact h h1
  · exact h h2

/-! ### The receive side -/

/-- A dropped record (R138). -/
theorem State.dropRecord_eq (s : State) (n : LaneId) (q : FillRecord) (detail : BitVec 16) (after : RecvState) :
    s.dropRecord n q detail after = s.dropped n q detail after := by
  unfold State.dropRecord State.dropped State.freeSlot
  dsimp only
  rw [State.wakeSlot_eq, State.chanNotice_eq]
  rw [Mover.endRecord_eq]
  simp only [State.countFault, State.setSlot, State.setRcv, State.setLane, State.setChan, State.chan, State.lane,
    Channel.enabled, NoticeKind.enableBit, Vector.set_set, Vector.getElem_set_self, Fin.getElem_fin, State.reported, chanSource,
    SlotRec.free]
  congr 1
  apply State.wakeSlot_host_congr <;> rfl

/-- A record dropped while it waits for a slot (R131, R137). -/
theorem State.dropWaiting_eq (s : State) (n : LaneId) (c : ChanId) (detail : BitVec 16) (after : RecvState) :
    s.dropWaiting n c detail after =
      { (s.setRcv n { (s.lane n).rcv with slotWaitTimer := none, state := after }).setChan c { s.chan c with
          faults := (s.chan c).faults + 1 } with
        nu := s.reported ((s.chan c).enables.getLsbD 3) .rxDropped (BitVec.ofNat 8 c.val) 0xFF 0 detail } := by
  unfold State.dropWaiting
  rw [State.chanNotice_eq]
  simp only [State.countFault, State.setRcv, State.setLane, State.setChan, State.chan, Channel.enabled, NoticeKind.enableBit,
    Vector.getElem_set_self, Fin.getElem_fin, State.reported, chanSource, noSlot]
  rfl

end Sys2Proof.Machine
end

