-- ==== Sys2Proof/Laws/Lines.lean ====
section
/-! SUPPORT. What the lane lines depend on, and what each pass over the four lanes leaves: the lines noted as fresh, the sampled
levels, and the watch sample. -/

namespace Sys2Proof.Machine

/-- Two states whose lanes agree on what drives the lines drive the same lines. -/
theorem State.driven_congr {s t : State}
    (h : ∀ n, (s.lane n).mode = (t.lane n).mode ∧ (s.lane n).dir = (t.lane n).dir ∧ (s.lane n).turn = (t.lane n).turn)
    (n : LaneId) : s.driven n = t.driven n := by
  unfold State.driven State.lending
  dsimp only
  rw [(h n).1, (h n).2.1, (h n).2.2, (h (mate n)).1]

theorem State.inputs_congr {s t : State}
    (h : ∀ n, (s.lane n).mode = (t.lane n).mode ∧ (s.lane n).dir = (t.lane n).dir ∧ (s.lane n).turn = (t.lane n).turn)
    (n : LaneId) : s.inputs n = t.inputs n := by
  unfold State.inputs
  rw [State.driven_congr h]

/-- Two states whose lanes agree on all but what watch samples compare carry the same levels. -/
theorem State.liveLines_congr {s t : State}
    (h : ∀ n, ∃ m : MirrorState, m.latch = (t.lane n).mir.latch ∧ s.lane n = { t.lane n with mir := m })
    (pins : Pins) (n : LaneId) : s.liveLines pins n = t.liveLines pins n := by
  have hd : s.driven n = t.driven n := by
    apply State.driven_congr
    intro k
    obtain ⟨m, _, hk⟩ := h k
    rw [hk]
    exact ⟨rfl, rfl, rfl⟩
  have hl : s.driveLevel n = t.driveLevel n := by
    obtain ⟨m, hm, hn⟩ := h n
    obtain ⟨m', _, hn'⟩ := h (mate n)
    unfold State.driveLevel State.lending
    dsimp only
    rw [hn, hn']
    dsimp only
    rw [hm]
    rfl
  unfold State.liveLines
  rw [hd, hl]

/-- One lane notes its fresh lines; the other lanes stay. -/
theorem State.noteFresh_lane (before s : State) (n k : LaneId) :
    (State.noteFresh before s n).lane k =
      if n = k then { s.lane n with mir := { (s.lane n).mir with
        fresh := (s.lane n).mir.fresh ||| ((s.inputs n &&& ~~~(before.inputs n)) |||
          ((s.lane n).watch &&& ~~~((before.lane n).watch))) } } else s.lane k := by
  unfold State.noteFresh
  rw [State.lane_setLane]

theorem State.noteFresh_eq (before s : State) (n : LaneId) :
    State.noteFresh before s n = { s with lanes := (State.noteFresh before s n).lanes } := rfl

theorem State.noteFresh_inputs (before s : State) (n k : LaneId) :
    (State.noteFresh before s n).inputs k = s.inputs k := by
  apply State.inputs_congr
  intro j
  rw [State.noteFresh_lane]
  split
  · rename_i h; subst h; exact ⟨rfl, rfl, rfl⟩
  · exact ⟨rfl, rfl, rfl⟩

/-- What every lane has noted at a grant: the lines that became inputs and those that became watched (R160). -/
theorem State.noteFreshAll_lane (s before : State) (k : LaneId) :
    (s.noteFreshAll before).lane k = { s.lane k with mir := { (s.lane k).mir with
      fresh := (s.lane k).mir.fresh ||| ((s.inputs k &&& ~~~(before.inputs k)) |||
        ((s.lane k).watch &&& ~~~((before.lane k).watch))) } } := by
  unfold State.noteFreshAll allLanes
  simp only [List.foldl_cons, List.foldl_nil]
  match k with
  | 0 | 1 | 2 | 3 => simp [State.noteFresh_lane, State.noteFresh_inputs]

/-- Only the lanes change. -/
theorem State.noteFreshAll_eq (s before : State) :
    s.noteFreshAll before = { s with lanes := (s.noteFreshAll before).lanes } := rfl

/-- Only the switched lane takes its released lines into the next comparison. -/
theorem State.compareReleased_lane (s before : State) (n k : LaneId) :
    (s.compareReleased before n).lane k =
      if n = k then { s.lane n with mir := { (s.lane n).mir with
        prevInput := (s.lane n).mir.prevInput ||| (s.inputs n &&& ~~~(before.inputs n))
        fresh := (s.lane n).mir.fresh &&& ~~~(s.inputs n &&& ~~~(before.inputs n)) } }
      else s.lane k := by
  unfold State.compareReleased
  rw [State.lane_setLane]

theorem State.compareReleased_eq (s before : State) (n : LaneId) :
    s.compareReleased before n = { s with lanes := (s.compareReleased before n).lanes } := rfl

/-- Every lane's sampled levels are the live levels of its lines (R155). -/
theorem State.sampleAll_lane (s : State) (pins : Pins) (k : LaneId) :
    (s.sampleAll pins).lane k =
      { s.lane k with mir := { (s.lane k).mir with sampled := s.liveLines pins k } } := by
  have one : ∀ (u : State) (n j : LaneId), (State.sampleLane pins u n).lane j =
      if n = j then { u.lane n with mir := { (u.lane n).mir with sampled := u.liveLines pins n } } else u.lane j := by
    intro u n j
    unfold State.sampleLane
    rw [State.lane_setLane]
  have live : ∀ (u : State) (n j : LaneId), (State.sampleLane pins u n).liveLines pins j = u.liveLines pins j := by
    intro u n j
    apply State.liveLines_congr
    intro i
    refine ⟨((State.sampleLane pins u n).lane i).mir, ?_, ?_⟩ <;> rw [one] <;> split
    · rename_i h; subst h; rfl
    · rfl
    · rename_i h; subst h; rfl
    · rfl
  unfold State.sampleAll allLanes
  simp only [List.foldl_cons, List.foldl_nil]
  match k with
  | 0 | 1 | 2 | 3 => simp [one, live]

end Sys2Proof.Machine
end

