-- ==== Sys2Proof/Laws/Operands.lean ====
section
/-! SUPPORT. The bits of the word layouts: what one bit of a merged word, of a placed field and of a field is, and that each
field of a setup word reads back what was placed there. Later proofs cite these and unfold no layout. -/

namespace Sys2Proof.Machine

/-! ### Bits -/

/-- Bit i of the enable mask is the enable of its byte (R8). -/
theorem enableMask_bit (be : Enables) (i : Nat) (h : i < 32) : (enableMask be).getLsbD i = be.getLsbD (i / 8) := by
  have key : ∀ be : Enables, ∀ i < 32, (enableMask be).getLsbD i = be.getLsbD (i / 8) := by decide
  exact key be i h

/-- Bit i of a merged word: written where its byte is enabled, the shadow's elsewhere (R8). -/
theorem mergeBytes_bit (be : Enables) (old new : Word) (i : Nat) (h : i < 32) :
    (mergeBytes be old new).getLsbD i = if be.getLsbD (i / 8) then new.getLsbD i else old.getLsbD i := by
  unfold mergeBytes
  rw [BitVec.getLsbD_or, BitVec.getLsbD_and, BitVec.getLsbD_and, BitVec.getLsbD_not, enableMask_bit be i h]
  cases be.getLsbD (i / 8) <;> simp [h]

/-- Bit i of a field is bit lo + i of its word. -/
theorem field_bit (w : Word) (lo width i : Nat) :
    (field w lo width).getLsbD i = (decide (i < width) && w.getLsbD (lo + i)) := by
  simp [field]

/-- Bit i of a placed field. -/
theorem place_bit {n : Nat} (lo : Nat) (x : BitVec n) (i : Nat) :
    (place lo x).getLsbD i = (decide (i < 32) && decide (lo ≤ i) && x.getLsbD (i - lo)) := by
  unfold place
  rw [BitVec.getLsbD_shiftLeft, BitVec.getLsbD_setWidth]
  by_cases h : i < 32
  · have h3 : i - lo < 32 := by omega
    by_cases h2 : lo ≤ i
    · simp [h, h2, h3, Nat.not_lt.mpr h2]
    · simp [h, h2, Nat.not_le.mp h2]
  · simp [h]

/-- Bit i of one placed bit. -/
theorem placeBit_bit (lo : Nat) (b : Bool) (i : Nat) :
    (placeBit lo b).getLsbD i = (decide (i < 32) && decide (i = lo) && b) := by
  unfold placeBit
  rw [place_bit]
  by_cases h : i = lo
  · subst h; simp
  · by_cases h2 : lo ≤ i
    · have : i - lo ≠ 0 := by omega
      cases b <;> simp [h, this]
    · simp [h, h2]

/-- A field whose bits lie in one byte of a merged word: the written one where the byte is enabled, the shadow's elsewhere
(R8). -/
theorem field_mergeBytes (be : Enables) (old new : Word) (b lo width : Nat) (h1 : 8 * b ≤ lo) (h2 : lo + width ≤ 8 * b + 8)
    (h3 : b < 4) :
    field (mergeBytes be old new) lo width = if be.getLsbD b then field new lo width else field old lo width := by
  apply BitVec.eq_of_getLsbD_eq
  intro i hi
  have hb : (lo + i) / 8 = b := by omega
  rw [field_bit, mergeBytes_bit be old new (lo + i) (by omega), hb]
  by_cases h : be.getLsbD b = true <;> simp [h, field_bit]

/-- A field that is the placed field itself. -/
theorem field_place (lo width : Nat) (x : BitVec width) (h : lo + width ≤ 32) : field (place lo x) lo width = x := by
  apply BitVec.eq_of_getLsbD_eq
  intro i hi
  rw [field_bit, place_bit]
  simp [hi, show lo + i < 32 by omega]

/-- A field of a joined word is the join of the fields. -/
theorem field_or (v w : Word) (lo width : Nat) : field (v ||| w) lo width = field v lo width ||| field w lo width := by
  apply BitVec.eq_of_getLsbD_eq
  intro i hi
  simp only [field_bit, BitVec.getLsbD_or, hi, decide_true, Bool.true_and]

/-- A field apart from what was placed is 0. -/
theorem field_place_apart {n : Nat} (lo width at' : Nat) (x : BitVec n) (h : lo + width ≤ at' ∨ at' + n ≤ lo) :
    field (place at' x) lo width = 0 := by
  apply BitVec.eq_of_getLsbD_eq
  intro i hi
  rw [field_bit, place_bit]
  rcases h with h | h
  · simp [show ¬at' ≤ lo + i by omega]
  · rw [BitVec.getLsbD_of_ge x (lo + i - at') (by omega)]
    simp

/-- A field apart from a placed bit is 0. -/
theorem field_placeBit_apart (lo width at' : Nat) (b : Bool) (h : lo + width ≤ at' ∨ at' + 1 ≤ lo) :
    field (placeBit at' b) lo width = 0 := field_place_apart lo width at' _ h

/-! ### The fields of the setup words (chapter 11) -/

@[simp] theorem DeviceShadow.control_active (d : DeviceShadow) : d.control.getLsbD 0 = d.active := by
  simp only [DeviceShadow.control, BitVec.getLsbD_or, place_bit, placeBit_bit]
  simp

@[simp] theorem DeviceShadow.control_irqEn (d : DeviceShadow) : d.control.getLsbD 1 = d.irqEn := by
  simp only [DeviceShadow.control, BitVec.getLsbD_or, place_bit, placeBit_bit]
  simp

@[simp] theorem DeviceShadow.control_ringSize (d : DeviceShadow) : field d.control 8 3 = d.ringSize := by
  unfold DeviceShadow.control
  rw [field_or, field_or, field_or, field_placeBit_apart _ _ _ _ (by omega), field_placeBit_apart _ _ _ _ (by omega),
    field_place _ _ _ (by omega), field_place_apart _ _ _ _ (by omega)]
  simp

@[simp] theorem DeviceShadow.control_patience (d : DeviceShadow) : field d.control 16 4 = d.patience := by
  unfold DeviceShadow.control
  rw [field_or, field_or, field_or, field_placeBit_apart _ _ _ _ (by omega), field_placeBit_apart _ _ _ _ (by omega),
    field_place_apart _ _ _ _ (by omega), field_place _ _ _ (by omega)]
  simp

@[simp] theorem Lane.timerWord_byteLimit (l : Lane) : field l.timerWord 0 8 = l.byteLimit := by
  unfold Lane.timerWord
  rw [field_or, field_or, field_place _ _ _ (by omega), field_place_apart _ _ _ _ (by omega),
    field_place_apart _ _ _ _ (by omega)]
  simp

@[simp] theorem Lane.timerWord_takeLimit (l : Lane) : field l.timerWord 8 8 = l.takeLimit := by
  unfold Lane.timerWord
  rw [field_or, field_or, field_place_apart _ _ _ _ (by omega), field_place _ _ _ (by omega),
    field_place_apart _ _ _ _ (by omega)]
  simp

@[simp] theorem Lane.timerWord_slotWait (l : Lane) : field l.timerWord 16 8 = l.slotWait := by
  unfold Lane.timerWord
  rw [field_or, field_or, field_place_apart _ _ _ _ (by omega), field_place_apart _ _ _ _ (by omega),
    field_place _ _ _ (by omega)]
  simp

@[simp] theorem Channel.geometry_sizeCode (ch : Channel) : field ch.geometry 0 4 = ch.sizeCode := by
  unfold Channel.geometry
  rw [field_or, field_place _ _ _ (by omega), field_place_apart _ _ _ _ (by omega)]
  simp

@[simp] theorem Channel.geometry_count (ch : Channel) : field ch.geometry 8 7 = ch.count := by
  unfold Channel.geometry
  rw [field_or, field_place_apart _ _ _ _ (by omega), field_place _ _ _ (by omega)]
  simp

@[simp] theorem Channel.control_dir (ch : Channel) : field ch.control 1 1 = ch.dir.code := by
  unfold Channel.control
  rw [field_or, field_or, field_or, field_or, field_placeBit_apart _ _ _ _ (by omega), field_place _ _ _ (by omega),
    field_place_apart _ _ _ _ (by omega), field_place_apart _ _ _ _ (by omega), field_place_apart _ _ _ _ (by omega)]
  simp

@[simp] theorem Channel.control_lane (ch : Channel) : field ch.control 4 2 = BitVec.ofFin (w := 2) ch.lane := by
  unfold Channel.control
  rw [field_or, field_or, field_or, field_or, field_placeBit_apart _ _ _ _ (by omega),
    field_place_apart _ _ _ _ (by omega), field_place _ _ _ (by omega), field_place_apart _ _ _ _ (by omega),
    field_place_apart _ _ _ _ (by omega)]
  simp

@[simp] theorem Channel.control_route (ch : Channel) : field ch.control 8 4 = ch.route := by
  unfold Channel.control
  rw [field_or, field_or, field_or, field_or, field_placeBit_apart _ _ _ _ (by omega),
    field_place_apart _ _ _ _ (by omega), field_place_apart _ _ _ _ (by omega), field_place _ _ _ (by omega),
    field_place_apart _ _ _ _ (by omega)]
  simp

@[simp] theorem Channel.control_guard (ch : Channel) : field ch.control 16 2 = ch.guard := by
  unfold Channel.control
  rw [field_or, field_or, field_or, field_or, field_placeBit_apart _ _ _ _ (by omega),
    field_place_apart _ _ _ _ (by omega), field_place_apart _ _ _ _ (by omega), field_place_apart _ _ _ _ (by omega),
    field_place _ _ _ (by omega)]
  simp

@[simp] theorem LaneMode.ofCode_code (m : LaneMode) : LaneMode.ofCode m.code = m := by cases m <;> rfl

@[simp] theorem Direction.ofCode_code (d : Direction) : Direction.ofCode d.code = d := by cases d <;> rfl

end Sys2Proof.Machine
end

