-- ==== Sys2Proof/Laws/PerInstr.lean ====
section
/-! SUPPORT. Statements made per command, one lemma for each constructor of Instr. The family EvenLaneWant: a well-formed
command that names the WANT line names it of a lane that has one. -/

namespace Sys2Proof.Laws.EvenLaneWant

open Sys2Proof.Machine

/-- WANT belongs to an even lane: a well-formed rise or fall of WANT names one (R86). -/
def Statement (i : Instr) : Prop :=
  i.wellFormed = true → ∀ n, (i = .wantRise n ∨ i = .wantFall n) → oddLane n = false

/-- A lane the check of WANT passes is even. -/
theorem even_not_odd (n : LaneId) (h : LaneId.even n = true) : oddLane n = false := by
  revert n; decide

theorem hostAccessArrival (bus : HostBus) (pins : Pins) : Statement (.hostAccessArrival bus pins) := by
  intro _ m hm
  rcases hm with hm | hm <;> cases hm

theorem mirrorWordRead (n : LaneId) (be : Enables) (pins : Pins) : Statement (.mirrorWordRead n be pins) := by
  intro _ m hm
  rcases hm with hm | hm <;> cases hm

theorem hostGrant (pins : Pins) : Statement (.hostGrant pins) := by
  intro _ m hm
  rcases hm with hm | hm <;> cases hm

theorem hostAccessCompletion (data : CycleEnd) (merr : Bool) : Statement (.hostAccessCompletion data merr) := by
  intro _ m hm
  rcases hm with hm | hm <;> cases hm

theorem earlyStrobeRelease : Statement (.earlyStrobeRelease) := by
  intro _ m hm
  rcases hm with hm | hm <;> cases hm

theorem hardwareReset (sbase : BitVec 8) (bypass : Bool) : Statement (.hardwareReset sbase bypass) := by
  intro _ m hm
  rcases hm with hm | hm <;> cases hm

theorem resetRelease (sbase : BitVec 8) (bypass : Bool) (bus : HostBus) (pins : Pins) : Statement (.resetRelease sbase bypass bus pins) := by
  intro _ m hm
  rcases hm with hm | hm <;> cases hm

theorem restart (pins : Pins) : Statement (.restart pins) := by
  intro _ m hm
  rcases hm with hm | hm <;> cases hm

theorem activeSet : Statement (.activeSet) := by
  intro _ m hm
  rcases hm with hm | hm <;> cases hm

theorem activeClear : Statement (.activeClear) := by
  intro _ m hm
  rcases hm with hm | hm <;> cases hm

theorem irqEnAndPatienceWrite : Statement (.irqEnAndPatienceWrite) := by
  intro _ m hm
  rcases hm with hm | hm <;> cases hm

theorem ringSizeChange : Statement (.ringSizeChange) := by
  intro _ m hm
  rcases hm with hm | hm <;> cases hm

theorem ringBaseWrite : Statement (.ringBaseWrite) := by
  intro _ m hm
  rcases hm with hm | hm <;> cases hm

theorem consumerIndexWrite : Statement (.consumerIndexWrite) := by
  intro _ m hm
  rcases hm with hm | hm <;> cases hm

theorem lostClear : Statement (.lostClear) := by
  intro _ m hm
  rcases hm with hm | hm <;> cases hm

theorem laneModeChange (pins : Pins) : Statement (.laneModeChange pins) := by
  intro _ m hm
  rcases hm with hm | hm <;> cases hm

theorem laneMasksWrite : Statement (.laneMasksWrite) := by
  intro _ m hm
  rcases hm with hm | hm <;> cases hm

theorem laneTimerWrite : Statement (.laneTimerWrite) := by
  intro _ m hm
  rcases hm with hm | hm <;> cases hm

theorem mirrorWordWrite : Statement (.mirrorWordWrite) := by
  intro _ m hm
  rcases hm with hm | hm <;> cases hm

theorem runRequest : Statement (.runRequest) := by
  intro _ m hm
  rcases hm with hm | hm <;> cases hm

theorem channelStop : Statement (.channelStop) := by
  intro _ m hm
  rcases hm with hm | hm <;> cases hm

theorem channelBindingWrite : Statement (.channelBindingWrite) := by
  intro _ m hm
  rcases hm with hm | hm <;> cases hm

theorem guardChange : Statement (.guardChange) := by
  intro _ m hm
  rcases hm with hm | hm <;> cases hm

theorem arrayGeometryWrite : Statement (.arrayGeometryWrite) := by
  intro _ m hm
  rcases hm with hm | hm <;> cases hm

theorem stallLimitWrite : Statement (.stallLimitWrite) := by
  intro _ m hm
  rcases hm with hm | hm <;> cases hm

theorem enableSet : Statement (.enableSet) := by
  intro _ m hm
  rcases hm with hm | hm <;> cases hm

theorem enableClear : Statement (.enableClear) := by
  intro _ m hm
  rcases hm with hm | hm <;> cases hm

theorem ignoredSetupWrite : Statement (.ignoredSetupWrite) := by
  intro _ m hm
  rcases hm with hm | hm <;> cases hm

theorem commit : Statement (.commit) := by
  intro _ m hm
  rcases hm with hm | hm <;> cases hm

theorem withdraw : Statement (.withdraw) := by
  intro _ m hm
  rcases hm with hm | hm <;> cases hm

theorem recommit : Statement (.recommit) := by
  intro _ m hm
  rcases hm with hm | hm <;> cases hm

theorem failedSlotFree : Statement (.failedSlotFree) := by
  intro _ m hm
  rcases hm with hm | hm <;> cases hm

theorem release : Statement (.release) := by
  intro _ m hm
  rcases hm with hm | hm <;> cases hm

theorem stallTimerExpiry : Statement (.stallTimerExpiry) := by
  intro _ m hm
  rcases hm with hm | hm <;> cases hm

theorem memoryPortGrant : Statement (.memoryPortGrant) := by
  intro _ m hm
  rcases hm with hm | hm <;> cases hm

theorem sendMoverReadCompletion (data : Word) (merr : Bool) : Statement (.sendMoverReadCompletion data merr) := by
  intro _ m hm
  rcases hm with hm | hm <;> cases hm

theorem receiveMoverWriteCompletion (merr : Bool) : Statement (.receiveMoverWriteCompletion merr) := by
  intro _ m hm
  rcases hm with hm | hm <;> cases hm

theorem noticeWordCompletion (merr : Bool) : Statement (.noticeWordCompletion merr) := by
  intro _ m hm
  rcases hm with hm | hm <;> cases hm

theorem take (n : LaneId) : Statement (.take n) := by
  intro _ m hm
  rcases hm with hm | hm <;> cases hm

theorem takeTimerExpiry (n : LaneId) : Statement (.takeTimerExpiry n) := by
  intro _ m hm
  rcases hm with hm | hm <;> cases hm

theorem abortStrobeEnd (n : LaneId) : Statement (.abortStrobeEnd n) := by
  intro _ m hm
  rcases hm with hm | hm <;> cases hm

theorem put (n : LaneId) (byte : Byte) (mark : Bool) : Statement (.put n byte mark) := by
  intro _ m hm
  rcases hm with hm | hm <;> cases hm

theorem engineAbort (n : LaneId) : Statement (.engineAbort n) := by
  intro _ m hm
  rcases hm with hm | hm <;> cases hm

theorem byteTimerExpiry (n : LaneId) : Statement (.byteTimerExpiry n) := by
  intro _ m hm
  rcases hm with hm | hm <;> cases hm

theorem slotWaitExpiry (n : LaneId) : Statement (.slotWaitExpiry n) := by
  intro _ m hm
  rcases hm with hm | hm <;> cases hm

theorem wantRise (n : LaneId) : Statement (.wantRise n) := by
  intro h m hm
  rcases hm with hm | hm <;> cases hm
  exact even_not_odd n h

theorem wantFall (n : LaneId) : Statement (.wantFall n) := by
  intro h m hm
  rcases hm with hm | hm <;> cases hm
  exact even_not_odd n h

theorem watchSample (pins : Pins) : Statement (.watchSample pins) := by
  intro _ m hm
  rcases hm with hm | hm <;> cases hm

theorem hostStrobeRelease (rd wr : Bool) : Statement (.hostStrobeRelease rd wr) := by
  intro _ m hm
  rcases hm with hm | hm <;> cases hm

theorem takeAssertion (n : LaneId) : Statement (.takeAssertion n) := by
  intro _ m hm
  rcases hm with hm | hm <;> cases hm

theorem markAssertion (n : MarkStart) : Statement (.markAssertion n) := by
  intro _ m hm
  rcases hm with hm | hm <;> cases hm

end Sys2Proof.Laws.EvenLaneWant
end

