-- ==== Sys2Proof/Tests/Slice0.lean ====
section
/-! SUPPORT. The model's own tests. First the smoke test of the well-formedness checks; then one step for each command, with
the result that the manual's worked sequences, layouts and rules give; then, for each statement with hypotheses, concrete
states and operands that meet them. -/

namespace Sys2Proof.Tests

open Sys2Proof Sys2Proof.Machine

/-! ### Ill-formed commands -/

theorem test_arrival_needs_a_strobe :
    (Instr.hostAccessArrival ⟨0, 0xF, 0, false, false⟩ .low).wellFormed = false := by decide

theorem test_release_needs_a_strobe : (Instr.hostStrobeRelease false false).wellFormed = false := by decide

theorem test_want_rise_needs_an_even_lane : (Instr.wantRise 1).wellFormed = false := by decide

theorem test_want_fall_needs_an_even_lane : (Instr.wantFall 3).wellFormed = false := by decide

/-! ### The worked setup (chapter 12) -/

/-- Channel 0: OUT on lane 0, route 3, 8 slots of 64 bytes at 020000h, every enable set. -/
def chan0 : Channel := { Channel.reset with
  lane := 0, route := 3, base := 0x020000, sizeCode := 2, count := 8, enables := 0x3F, state := .running
  slots := List.replicate 8 SlotRec.free }

/-- Channel 1: IN on lane 1, route 5, 4 slots of 128 bytes at 030000h, every enable set. -/
def chan1 : Channel := { Channel.reset with
  dir := .inbound, lane := 1, route := 5, base := 0x030000, sizeCode := 3, count := 4, enables := 0x3F
  state := .running, slots := List.replicate 4 SlotRec.free }

/-- Channel 2: OUT on lane 2, route 1, 2 slots of 16 bytes at 040000h. -/
def chan2 : Channel := { Channel.reset with
  lane := 2, route := 1, base := 0x040000, count := 2, state := .running, slots := List.replicate 2 SlotRec.free }

/-- Channel 3: IN on lane 2, route 2, 2 slots of 16 bytes at 050000h. -/
def chan3 : Channel := { Channel.reset with
  dir := .inbound, lane := 2, route := 2, base := 0x050000, count := 2, state := .running
  slots := List.replicate 2 SlotRec.free }

/-- The part of the worked setup, with nothing in progress: SBASE 0Fh, a ring of 32 records at 0F1000h, lane 0 SEND, lane 1
RECEIVE, lane 2 DUPLEX, lane 3 MIRROR. -/
def worked : State := { State.reset with
  sbase := 0x0F
  dev := ⟨true, true, 3, 4, 0x0F1000⟩
  chans := #v[chan0, chan1, chan2, chan3, .reset, .reset, .reset, .reset]
  lanes := #v[{ Lane.reset with mode := .send, takeLimit := 4 },
    { Lane.reset with mode := .receive, byteLimit := 2, slotWait := 3 },
    { Lane.reset with mode := .duplex, byteLimit := 1 }, .reset] }

/-- `s` with the host access `r` waiting for its grant. -/
def asking (s : State) (r : HostRecord) : State := { s with host := ⟨.waiting r, none, !r.write, r.write⟩ }

/-- A write of the setup word at an offset of the worked setup. -/
def setupStore (off : Nat) (be : Enables) (data : Word) : HostRecord :=
  ⟨BitVec.ofNat 24 (0x0F0000 + off), true, be, data, .setup off⟩

/-- A header write of slot k of channel 0, 1, 2 or 3. -/
def headerStore (c : ChanId) (k : Nat) (data : Word) : HostRecord :=
  ⟨(worked.chan c).wordAddr k 0, true, 0xF, data, .slotHeader c k⟩

/-- A write of payload word w of slot k of channel 0, 1, 2 or 3. -/
def payloadStore (c : ChanId) (k w : Nat) : HostRecord :=
  ⟨(worked.chan c).wordAddr k w, true, 0xF, 0x11223344, .slotPayload c k w⟩

/-- A plain write outside every area of the worked setup. -/
def plainStore : HostRecord := ⟨0x001000, true, 0xF, 0x55AA55AA, .plain⟩

/-- A plain read outside every area of the worked setup. -/
def plainLoad : HostRecord := ⟨0x001000, false, 0xF, 0, .plain⟩

/-- The host's lines for an access. -/
def lines (a : Nat) (rd wr : Bool) : HostBus := ⟨BitVec.ofNat 22 (a / 4), 0xF, 0, rd, wr⟩

/-- The state after a command. -/
def after (c : Instr) (s : State) : State :=
  match exec c s with
  | .next t => t
  | _ => s

/-- `s` with a send side on lane n. -/
def sending (s : State) (n : LaneId) (x : SendSide) : State := s.setSnd n x

/-- Slot k of channel c in a state, with its length and number. -/
def holding (s : State) (c : ChanId) (k : Nat) (st : SlotState) (len : Nat) (seq : Byte) : State :=
  s.setSlot c k ⟨st, len, seq⟩

/-- Channel 0 sends slot 0, six bytes: the route byte is on the lines and word 1 is wanted. -/
def sending0 : State := sending (holding worked 0 0 .sending 6 0) 0 { SendSide.reset with
  cur := some ⟨0, 0, 6, 0, 0, true⟩, mover := .waiting, takeTimer := some 256, data := 3 }

/-- Channel 1 fills slot 0 with six bytes stored, q4 and q5 gathered, the record closing. -/
def closing1 : State := (holding worked 1 0 .filling 6 0).setRcv 1 { RecvSide.reset with
  state := .closing ⟨1, 0, false⟩, gather := [4, 5], mover := .waiting }

/-- The memory port BUSY with a requester's access. -/
def busy (s : State) (who : Requester) (a : MemAccess) : State := { s with arb := { s.arb with port := some ⟨who, a⟩ } }

/-! ### One step of each command -/

/-- Bring-up, step 2: device control reads back 00040303h, without a memory request (R4). -/
theorem test_setup_read_is_answered : (after (.hostAccessArrival (lines 0x0F0000 true false) .low) worked).hd =
    some 0x00040303 := by decide

/-- A store to 020094h is word 5 of slot 2 of channel 0 (R2). -/
theorem test_arrival_is_classified :
    (after (.hostAccessArrival (lines 0x020094 false true) .low) worked).host.port =
      .waiting ⟨0x020094, true, 0xF, 0, .slotPayload 0 2 5⟩ := by decide

/-- A mirror word reads the outside levels of input lines and clears the change-held flag (R159). -/
theorem test_mirror_word_read :
    let s := after (.mirrorWordRead 0 0 ⟨⟨0x155, 0⟩, ⟨0, 0⟩, ⟨0, 0⟩, ⟨0, 0⟩⟩)
      (State.reset.setLane 0 { Lane.reset with mir := { MirrorState.reset with changeHeld := true } })
    s.hd = some 0x155 ∧ (s.lane 0).mir.changeHeld = false := by decide

/-- A granted plain store drives its recorded address, enables and data (R6). -/
theorem test_host_grant : (after (.hostGrant .low) (asking worked plainStore)).arb.port =
    some ⟨.host, ⟨0x001000, 0xF, some 0x55AA55AA⟩⟩ := by decide

/-- With PATIENCE 0 a standing internal request keeps the host waiting (R148); one that came at the port's FREE may be taken
after the host's grant, and is not counted (R147, R153). -/
theorem test_host_grant_without_patience :
    let s (standing : List Requester) : State := { asking sending0 plainStore with
      dev := { worked.dev with patience := 0 }, arb := ⟨none, 2, 0, .opened standing⟩ }
    (after (.hostGrant .low) (s [.host, .send 0])).arb.port = none ∧
      (after (.hostGrant .low) (s [.host])).arb.port = some ⟨.host, ⟨0x001000, 0xF, some 0x55AA55AA⟩⟩ ∧
      (after (.hostGrant .low) (s [.host])).arb.patienceCtr = 0 := by decide

/-- A header read of a SENDING slot: STATE 2 and SEQ over the memory's word (R11, section 11.5). -/
theorem test_completion_lays_the_overlay_over :
    (after (.hostAccessCompletion ⟨0x80990006, .low⟩ false) { worked with host :=
      ⟨.access ⟨0x020000, false, 0xF, 0, .slotHeader 0 0⟩ ⟨false, false, some ⟨.sending, some 5⟩, none⟩, none, true, false⟩ }).hd =
      some 0x82050006 := by decide

/-- A strobe asserted again over an abandoned access arrives once the port is in HP_IDLE (R14). -/
theorem test_completion_takes_the_strobe_asserted_again :
    let s := after (.hostAccessCompletion ⟨0, .low⟩ false) (busy { worked with
      host := ⟨.access plainStore ⟨true, false, none, some (lines 0x020094 false true)⟩, none, false, true⟩ } .host
      ⟨0x001000, 0xF, none⟩)
    s.host.port = .waiting ⟨0x020094, true, 0xF, 0, .slotPayload 0 2 5⟩ ∧ s.arb.port = none := by decide

/-- An early release of a held write ends it and stops its stall timer (R14). -/
theorem test_early_release_of_a_held_write :
    let s := after .earlyStrobeRelease { worked with
      host := ⟨.held (payloadStore 0 2 5), none, false, true⟩, guard := ⟨some ⟨0, 2, 5, .slot⟩, some 100⟩ }
    s.host = ⟨.idle, none, false, false⟩ ∧ s.guard = ⟨none, none⟩ := by decide

/-- A withdrawn request takes no part in the next decision (R152), and the host's new one, presented while the send side's waits
for its grant, neither stands nor overtakes it (R147). -/
theorem test_withdrawn_request_stands_no_longer :
    let s : State := { asking sending0 plainStore with arb := ⟨none, 0, 0, .opened [.host, .send 0]⟩ }
    let t := after (.hostAccessArrival (lines 0x001000 true false) .low) (after .earlyStrobeRelease s)
    s.stands .host = true ∧ t.presented .host = true ∧ t.contends .host = false ∧ t.stands (.send 0) = true ∧
      (after (.hostGrant .low) t).arb.port = none ∧ (after .memoryPortGrant t).portOwner = some (.send 0) := by decide

/-- A hardware reset puts the channels in OFF and samples the straps (R16, R35). -/
theorem test_hardware_reset :
    let s := after (.hardwareReset 0x20 true) worked
    (s.chan 0).state = .off ∧ s.resetn = false ∧ s.sbase = 0x20 ∧ s.bypass = true := by decide

/-- A strobe asserted at the rise of RESETn arrives (R16). -/
theorem test_reset_release_takes_the_strobe :
    (after (.resetRelease 0x0F true (lines 0x0F0000 true false) .low) { State.reset with resetn := false }).host.port =
      .waiting ⟨0x0F0000, false, 0xF, 0, .plain⟩ := by decide

/-- A restart takes its effect at the grant and its own cycle runs on (R17, R32). -/
theorem test_restart :
    let s := after (.restart .low) (asking worked (setupStore 0 0xF 0x00000080))
    s.dev = ⟨false, false, 0, 4, 0⟩ ∧ s.arb.port = some ⟨.host, ⟨0x0F0000, 0xF, some 0x80⟩⟩ := by decide

/-- ACTIVE passes from 0 to 1 (R26). -/
theorem test_active_set :
    (after .activeSet (asking { worked with dev := ⟨false, false, 0, 4, 0⟩ } (setupStore 0 0xF 0x00040001))).dev =
      ⟨true, false, 0, 4, 0⟩ := by decide

/-- ACTIVE passing to 0 stops every channel (R27). -/
theorem test_active_clear :
    let s := after .activeClear (asking sending0 (setupStore 0 0x1 0))
    (s.chan 0).state = .off ∧ (s.chan 1).state = .off ∧ (s.lane 0).snd.strobe = some 1 := by decide

/-- IRQ_EN written as 1 while records wait asserts IRQ at the grant (R28). -/
theorem test_irq_en_write :
    (after .irqEnAndPatienceWrite (asking { worked with
      dev := ⟨true, false, 3, 4, 0x0F1000⟩, nu := ⟨[], 5, false, 5, 4, .idle⟩ } (setupStore 0 0x1 0x3))).irq = true := by
  decide

/-- RING_SIZE 7 names no ring: SETUP_REJECTED, SOURCE FFh, DETAIL 15 (R29). -/
theorem test_ring_size_seven :
    (after .ringSizeChange (asking worked (setupStore 0 0x2 0x700))).nu.list =
      [⟨.setupRejected, 0xFF, 0xFF, 0, 15, 0⟩] := by decide

/-- Bring-up, step 1: the ring base is taken with RING_SIZE 0 (R172). -/
theorem test_ring_base_write :
    (after .ringBaseWrite (asking { State.reset with sbase := 0x0F } (setupStore 4 0xF 0x000F1000))).dev.ringBase =
      0x0F1000 := by decide

/-- The worked sequence's last row: consumer 13 leaves occupancy 0 and IRQ deasserted (R170). -/
theorem test_consumer_index_write :
    let s := after .consumerIndexWrite (asking { worked with nu := ⟨[], 18, false, 13, 12, .idle⟩ } (setupStore 8 0xF 13))
    s.nu.cons = 13 ∧ s.irq = false := by decide

/-- Device status written with 00000002h clears LOST (R31). -/
theorem test_lost_clear :
    (after .lostClear (asking { worked with nu := ⟨[], 0, true, 0, 0, .idle⟩ } (setupStore 0x10 0xF 2))).nu.lost = false := by
  decide

/-- A mode change of a lane with a RUNNING channel is refused with LANE_BOUND (12), SOURCE 10h + n (R88). -/
theorem test_mode_change_of_a_bound_lane :
    let s := after (.laneModeChange .low) (asking worked (setupStore 0x50 0xF 1))
    (s.lane 1).mode = .receive ∧ s.nu.list = [⟨.setupRejected, 0x11, 0xFF, 0, 12, 0⟩] := by decide

/-- A watched line that the switch from SEND released, low at the grant, is reported if it is high at the next sample
(R162). -/
theorem test_mode_change_compares_released_lines :
    let s := after (.laneModeChange .low) (asking { worked with
      chans := .replicate 8 .reset
      lanes := #v[.reset, .reset, .reset, { Lane.reset with mode := .send, watch := 0x001 }] }
      (setupStore 0x70 0xF 0x00080000))
    s.changed ⟨⟨0, 0⟩, ⟨0, 0⟩, ⟨0, 0⟩, ⟨0x001, 0⟩⟩ 3 = 0x001 := by decide

/-- Lane 3's masks: DIR in bits 18:8, WATCH in bits 29:19 (section 11.3). -/
theorem test_masks_write :
    let s := after .laneMasksWrite (asking worked (setupStore 0x70 0xF 0x01800F00))
    (s.lane 3).dir = 0x00F ∧ (s.lane 3).watch = 0x030 := by decide

/-- Bring-up: 00030002h is BYTE_LIMIT 2 and SLOT_WAIT 3. -/
theorem test_timer_write :
    let s := after .laneTimerWrite (asking worked (setupStore 0x44 0xF 0x00030002))
    (s.lane 0).byteLimit = 2 ∧ (s.lane 0).takeLimit = 0 ∧ (s.lane 0).slotWait = 3 := by decide

/-- A mirror word write with byte 1 alone enabled takes latch bits 10:8 (R157). -/
theorem test_mirror_word_write :
    ((after .mirrorWordWrite (asking worked (setupStore 0x78 0x2 0xFFFFFFFF))).lane 3).mir.latch = 0x700 := by decide

/-- A run is accepted with every slot FREE and NEXT_SEQ 0 (R46). -/
theorem test_run_request :
    let s := after .runRequest (asking (worked.setChan 0 { chan0 with state := .off, slots := [], seqCtr := 9 })
      (setupStore 0x100 0xF 0x00000301))
    (s.chan 0).state = .running ∧ (s.chan 0).seqCtr = 0 ∧ (s.chan 0).slots.length = 8 := by decide

/-- A run while ACTIVE is 0 ends in REJECTED with REASON 1 (R44). -/
theorem test_run_while_inactive :
    ((after .runRequest (asking { State.reset with sbase := 0x0F } (setupStore 0x120 0xF 1))).setupReadWord .low
      (.chanStatus 1)) = 0x00000012 := by decide

/-- The worked stop during a send: strobe begun, request withdrawn, DONE and FAULTS kept (R48, R49). -/
theorem test_channel_stop :
    let s := after .channelStop (asking (sending0.setChan 0 { sending0.chan 0 with done := 9, faults := 1 })
      (setupStore 0x100 0x1 0))
    (s.chan 0).state = .off ∧ (s.chan 0).done = 9 ∧ (s.lane 0).snd.mover = .none ∧ (s.lane 0).snd.markLine = true := by
  decide

/-- A binding write with byte 1 alone takes ROUTE and makes no run request (R40). -/
theorem test_binding_write :
    let s := after .channelBindingWrite (asking { State.reset with sbase := 0x0F } (setupStore 0x100 0x2 0xFFFFFFFF))
    (s.chan 0).route = 15 ∧ (s.chan 0).state = .off ∧ (s.chan 0).dir = .outbound := by decide

/-- The worked stall: 00020000h with byte 2 alone; the control word then reads 00020301h (R41). -/
theorem test_guard_change :
    (after .guardChange (asking (worked.setChan 0 { chan0 with stallLimit := 25 }) (setupStore 0x100 0x4 0x00020000))).setupReadWord
      .low (.chanControl 0) = 0x00020301 := by decide

/-- 00000802h is SIZE_CODE 2 and COUNT 8; a RUNNING channel ignores it (R42). -/
theorem test_geometry_write :
    ((after .arrayGeometryWrite (asking { State.reset with sbase := 0x0F } (setupStore 0x108 0xF 0x00000802))).chan 0).size =
      64 ∧
    ((after .arrayGeometryWrite (asking worked (setupStore 0x128 0xF 0x00000802))).chan 1).count = 4 := by decide

/-- A stall limit is taken while RUNNING (R43). -/
theorem test_stall_limit_write :
    ((after .stallLimitWrite (asking worked (setupStore 0x10C 0xF 0x00000019))).chan 0).stallLimit = 25 := by decide

/-- An enable set word sets what it presents as 1 (R52). -/
theorem test_enable_set :
    ((after .enableSet (asking worked (setupStore 0x150 0xF 0x00000022))).chan 2).enables = 0x22 := by decide

/-- An enable clear word clears what it presents as 1 (R52). -/
theorem test_enable_clear :
    ((after .enableClear (asking worked (setupStore 0x114 0xF 0x00000022))).chan 0).enables = 0x1D := by decide

/-- A write of the producer index changes no field of the part (R21). -/
theorem test_ignored_write :
    let s := after .ignoredSetupWrite (asking worked (setupStore 0x0C 0xF 0xFFFFFFFF))
    s.nu = worked.nu ∧ s.arb.port = some ⟨.host, ⟨0x0F000C, 0xF, some 0xFFFFFFFF⟩⟩ := by decide

/-- The worked commit: slot 0 SENDING with length 6 and number 0, the route byte 03h offered (R66, R110). -/
theorem test_commit :
    let s := after .commit (asking worked (headerStore 0 0 6))
    s.slot 0 0 = ⟨.sending, 6, 0⟩ ∧ (s.lane 0).snd.data = 3 ∧ (s.lane 0).snd.mover = .waiting ∧ (s.chan 0).seqCtr = 1 := by
  decide

/-- A commit above the capacity of 60 is refused by LENGTH (R67). -/
theorem test_commit_too_long :
    let s := after .commit (asking worked (headerStore 0 0 61))
    s.slot 0 0 = SlotRec.free ∧ s.nu.list = [⟨.commitRefused, 0, 0, 0, 1, 0⟩] := by decide

/-- A withdraw takes the slot's entry out of the queue and returns no number (R68). -/
theorem test_withdraw :
    let s := after .withdraw (asking (sending (holding worked 0 1 .committed 9 4) 0
      { SendSide.reset with queue := [⟨0, 1⟩], strobe := some 1 }) (headerStore 0 1 0))
    s.slot 0 1 = SlotRec.free ∧ (s.lane 0).snd.queue = [] := by decide

/-- A recommit takes a new number (R69). -/
theorem test_recommit :
    (after .recommit (asking ((holding worked 0 1 .failed 9 4).setChan 0
      { (holding worked 0 1 .failed 9 4).chan 0 with seqCtr := 5 }) (headerStore 0 1 8))).slot 0 1 =
      ⟨.sending, 8, 5⟩ := by decide

/-- LENGTH 0 gives up a FAILED slot (R69). -/
theorem test_failed_slot_free :
    (after .failedSlotFree (asking (holding worked 0 1 .failed 9 4) (headerStore 0 1 0))).slot 0 1 = SlotRec.free := by
  decide

/-- The worked slot wait: the release of slot 0 lets the waiting record pick it, four bytes are consumed and two wait, the
fill pointer is 1 (R131). -/
theorem test_release :
    let s := (worked.setChan 1 { chan1 with
      slots := [⟨.ready, 1, 4⟩, ⟨.ready, 1, 5⟩, ⟨.ready, 1, 6⟩, ⟨.ready, 1, 7⟩], seqCtr := 8 }).setRcv 1
      { RecvSide.reset with
        state := .slotWait 1 false, slotWaitTimer := some 192
        rx := [⟨0xA0, false, none⟩, ⟨0xA1, false, none⟩, ⟨0xA2, false, none⟩, ⟨0xA3, false, none⟩, ⟨0xA4, false, none⟩,
          ⟨0xA5, true, none⟩] }
    let t := after .release (asking s (headerStore 1 0 0))
    t.slot 1 0 = ⟨.filling, 4, 0⟩ ∧ (t.lane 1).rcv.rx.length = 2 ∧ (t.chan 1).fillPtr = 1 ∧
      (t.lane 1).rcv.mover = .waiting := by decide

/-- The worked stall that expires: HERR, GUARD_DISCARD with SEQ 11 and DETAIL C005h (R76, R80). -/
theorem test_stall_timer_expiry :
    let s := after .stallTimerExpiry { holding worked 0 2 .sending 20 11 with
      now := 100, host := ⟨.held (payloadStore 0 2 5), none, false, true⟩, guard := ⟨some ⟨0, 2, 5, .slot⟩, some 100⟩ }
    s.herr = true ∧ s.hwait = false ∧ s.nu.list = [⟨.guardDiscard, 0, 2, 11, 0xC005, 0⟩] := by decide

/-- The worked send's first read: 020004h, four enables (R114). -/
theorem test_memory_port_grant :
    (after .memoryPortGrant sending0).arb = ⟨some ⟨.send 0, ⟨0x020004, 0xF, none⟩⟩, 2, 0, .recorded .none⟩ := by decide

/-- Of a pair presented at a FREE port the first taken is granted alone: the host's grant counts nothing, with patience left,
and the send side may be granted first (R147, R148). -/
theorem test_pair_at_a_free_port :
    let s := asking sending0 plainStore
    let t := after (.hostGrant .low) s
    s.dev.patience = 4 ∧ t.portOwner = some .host ∧ t.arb.patienceCtr = 0 ∧ t.freeCount = s.freeCount ∧
      (after .memoryPortGrant s).portOwner = some (.send 0) := by decide

/-- Word 1 completes: a0 to a3 are buffered and word 2 is wanted (R115). -/
theorem test_send_read_completion :
    let s := after (.sendMoverReadCompletion 0xA3A2A1A0 false) (busy (sending0.setSnd 0
      { (sending0.lane 0).snd with mover := .busy }) (.send 0) ⟨0x020004, 0xF, none⟩)
    (s.lane 0).snd.tx = [0xA0, 0xA1, 0xA2, 0xA3] ∧ (s.lane 0).snd.mover = .waiting := by decide

/-- The worked close: the header 05080006h is asked for after the last payload word (R135). -/
theorem test_close_writes_the_header :
    let s := after (.receiveMoverWriteCompletion false) (busy ((closing1.setChan 1
      { closing1.chan 1 with seqCtr := 8 }).setRcv 1 { (closing1.lane 1).rcv with mover := .busy }) (.recv 1)
      ⟨0x030008, 0x3, some 0⟩)
    (after .memoryPortGrant s).arb.port = some ⟨.recv 1, ⟨0x030000, 0xF, some 0x05080006⟩⟩ := by decide

/-- The header write completes: READY with length 6 and number 8, RX_READY with DETAIL 6 (R136, R141). -/
theorem test_record_ready :
    let s := after (.receiveMoverWriteCompletion false) (busy ((closing1.setChan 1
      { closing1.chan 1 with seqCtr := 8 }).setRcv 1 { (closing1.lane 1).rcv with mover := .busy, gather := [] }) (.recv 1)
      ⟨0x030000, 0xF, some 0⟩)
    s.slot 1 0 = ⟨.ready, 6, 8⟩ ∧ s.nu.list = [⟨.rxReady, 1, 0, 8, 6, 0⟩] ∧ (s.chan 1).done = 1 := by decide

/-- The worked notice's word 1 completes: producer 13 and IRQ (R168, R173). -/
theorem test_notice_word_completion :
    let s := after (.noticeWordCompletion false) (busy { worked with
      nu := ⟨[⟨.txDone, 0, 0, 0, 6, 17⟩], 18, false, 12, 12, .word1Writing⟩ } .notice ⟨0x0F1064, 0xF, some 0x00110006⟩)
    s.nu.prod = 13 ∧ s.nu.list = [] ∧ s.irq = true := by decide

/-- The last take: slot 0 FREE, TX_DONE with NUMBER 17 pending, word 0 wanted (R117). -/
theorem test_take_of_the_last_byte :
    let s := after (.take 0) { sending0.setSnd 0 { SendSide.reset with
      cur := some ⟨0, 0, 6, 6, 6, true⟩, data := 0xA5, takePulse := some true } with
      nu := ⟨[], 17, false, 12, 12, .idle⟩ }
    s.slot 0 0 = SlotRec.free ∧ s.nu = ⟨[⟨.txDone, 0, 0, 0, 6, 17⟩], 18, false, 12, 12, .word0Waiting⟩ := by decide

/-- A take timeout makes the slot FAILED and begins the abort strobe (R93, R118). -/
theorem test_take_timer_expiry :
    let s := after (.takeTimerExpiry 0) { sending0 with now := 256 }
    s.slot 0 0 = ⟨.failed, 6, 0⟩ ∧ (s.lane 0).snd.strobe = some 257 ∧ (s.chan 0).faults = 1 := by decide

/-- The strobe's end starts the next entry (R94, R109). -/
theorem test_abort_strobe_end :
    let s := after (.abortStrobeEnd 0) { sending (holding worked 0 1 .committed 9 4) 0
      { SendSide.reset with queue := [⟨0, 1⟩], strobe := some 1 } with now := 1 }
    (s.lane 0).snd.strobe = none ∧ (s.slot 0 1).state = .sending := by decide

/-- A route byte 05h picks channel 1's first FREE slot (R126, R129). -/
theorem test_put_of_a_route_byte :
    let s := after (.put 1 0x05 false) worked
    (s.lane 1).rcv.state = .filling ⟨1, 0, false⟩ ∧ (s.lane 1).rcv.byteTimer = some 128 ∧ s.slot 1 0 = ⟨.filling, 0, 0⟩ := by
  decide

/-- A put into a full buffer marks the tail entry with OVERRUN and skips the rest (R97). -/
theorem test_put_overrun :
    let s := after (.put 1 0x77 false) (worked.setRcv 1 { RecvSide.reset with
      putState := .record, state := .slotWait 1 false, rx := List.replicate 16 ⟨0, false, none⟩ })
    (s.lane 1).rcv.putState = .skip ∧ (s.lane 1).rcv.rx.getLast? = some ⟨0, false, some .overrun⟩ := by decide

/-- An engine abort in a record with an empty buffer drops it as ENGINE_ABORT (1) (R98, R137). -/
theorem test_engine_abort :
    let s := after (.engineAbort 1) ((holding worked 1 0 .filling 2 0).setRcv 1 { RecvSide.reset with
      putState := .record, state := .filling ⟨1, 0, false⟩, gather := [1, 2], markPulse := some false })
    s.slot 1 0 = SlotRec.free ∧ s.nu.list = [⟨.rxDropped, 1, 0, 0, 1, 0⟩] := by decide

/-- A MARK pulse that began while PUT was asserted is no abort (R98). -/
theorem test_mark_over_put_is_no_abort :
    let s := after (.engineAbort 1) ((holding worked 1 0 .filling 2 0).setRcv 1 { RecvSide.reset with
      putState := .record, state := .filling ⟨1, 0, false⟩, gather := [1, 2], markPulse := some true })
    (s.lane 1).rcv.state = .filling ⟨1, 0, false⟩ ∧ (s.lane 1).rcv.putState = .record := by decide

/-- The byte timer's expiry ends a T_IN turn (R99, R102). -/
theorem test_byte_timer_expiry :
    let s := after (.byteTimerExpiry 2) { (worked.setTurn 2 ⟨.inn, .outbound, false, false⟩).setRcv 2
      { RecvSide.reset with byteTimer := some 64 } with now := 64 }
    (s.lane 2).turn = ⟨.idle, .inbound, false, false⟩ := by decide

/-- A slot wait timeout drops the record as NO_SLOT (5) with SLOT FFh (R131). -/
theorem test_slot_wait_expiry :
    let s := after (.slotWaitExpiry 1) { worked.setRcv 1 { RecvSide.reset with
      state := .slotWait 1 false, slotWaitTimer := some 192 } with now := 192 }
    (s.lane 1).rcv.state = .discarding ∧ s.nu.list = [⟨.rxDropped, 1, 0xFF, 0, 5, 0⟩] := by decide

/-- WANT at rest is granted T_IN with the byte timer (R100, R102). -/
theorem test_want_rise :
    let s := after (.wantRise 2) worked
    (s.lane 2).turn.turn = .inn ∧ (s.lane 2).rcv.byteTimer = some 64 := by decide

/-- The worked early WANT fall: the turn passes to T_OUT and slot 1 starts (R102). -/
theorem test_want_fall :
    let s := after (.wantFall 2) ((sending (holding worked 2 1 .committed 2 1) 2
      { SendSide.reset with queue := [⟨2, 1⟩] }).setTurn 2 ⟨.inn, .outbound, true, false⟩)
    (s.lane 2).turn = ⟨.out, .inbound, false, false⟩ ∧ (s.lane 2).snd.data = 1 := by decide

/-- A watched input that changes is reported once, with its line (R160). -/
theorem test_watch_sample :
    let s := after (.watchSample ⟨⟨0, 0⟩, ⟨0, 0⟩, ⟨0, 0⟩, ⟨0x020, 0⟩⟩) (worked.setLane 3
      { Lane.reset with watch := 0x030, mir := { MirrorState.reset with prevInput := 0x0FF } })
    s.nu.list = [⟨.mirrorChange, 0x13, 0xFF, 0, 0x020, 0⟩] ∧ s.now = 1 := by decide

/-- The answer is dropped when its strobe is released (R1). -/
theorem test_host_strobe_release :
    (after (.hostStrobeRelease true false) { worked with
      host := ⟨.idle, some ⟨true, false, true, some 7⟩, true, false⟩ }).host = ⟨.idle, none, false, false⟩ := by decide

/-- TAKE meets the offer of the route byte (R92). -/
theorem test_take_assertion : ((after (.takeAssertion 0) sending0).lane 0).snd.takePulse = some true := by decide

/-- A MARK pulse begins on a RECEIVE lane, with PUT released or asserted (R98). -/
theorem test_mark_assertion :
    ((after (.markAssertion ⟨1, false⟩) worked).lane 1).rcv.markPulse = some false ∧
      ((after (.markAssertion ⟨1, true⟩) worked).lane 1).rcv.markPulse = some true := by decide

/-! ### States and operands that meet the hypotheses of the statements -/

/-- The worked setup meets the laws of the part. -/
theorem test_worked_meets_the_laws : Inv worked := by constructor <;> decide

theorem witness_StepRunsTheFrontCommand : State.reset.pending = [] := rfl

theorem witness_EveryCommandKeepsQueueStrapsAndClock :
    (∀ a b, Instr.activeSet ≠ .hardwareReset a b) ∧ (∀ a b u p, Instr.activeSet ≠ .resetRelease a b u p) ∧
      ∀ p, Instr.activeSet ≠ .watchSample p := by
  refine ⟨?_, ?_, ?_⟩ <;> intros <;> nofun

theorem witness_ResetReleaseTakesAStrobeAsAnArrival :
    { State.reset with resetn := false }.resetn = false ∧ (lines 0 false false).rd = false ∧
      (lines 0 false false).wr = false ∧ (lines 0xFFFFFC true false).rd = true ∧ (lines 0 false true).wr = true ∧
      worked.resetn = true := by decide

theorem witness_RestartResetsEveryBlock :
    let r := setupStore 0 0x1 0xFF
    HostGranted (asking worked r) r ∧ SetupWrite r .deviceControl ∧ r.be.getLsbD 0 = true ∧ r.data.getLsbD 7 = true := by
  decide

theorem witness_ArrivalIsRecordedAndWaits :
    worked.resetn = true ∧ worked.host = ⟨.idle, none, false, false⟩ ∧
      (lines 0xFFFFFC true false).rd = !(lines 0xFFFFFC true false).wr ∧
      worked.classify (4 * (lines 0xFFFFFC true false).wordAddr.toNat) = .plain ∧
      (lines 0x0F0000 false true).rd = !(lines 0x0F0000 false true).wr := by decide

theorem witness_ClassFollowsTheAddress :
    ChannelLaw worked ∧ ChannelLaw { State.reset with bypass := true } ∧ (worked.bypass = false ∧
      worked.setupBase ≤ 0x0F0000 ∧ 0x0F01FF ≤ worked.setupBase + 0x1FF ∧
      (worked.chan 0).state = .running ∧ (worked.chan 0).base.toNat ≤ 0x020000 ∧
      0x0201FF ≤ (worked.chan 0).base.toNat + (worked.chan 0).count.toNat * (worked.chan 0).size - 1 ∧
      ∀ a ∈ [0x020200, 0x0F0200, 0xFFFFFF], ∀ c : ChanId, (worked.chan c).state = .running →
        ¬((worked.chan c).base.toNat ≤ a ∧
          a ≤ (worked.chan c).base.toNat + (worked.chan c).count.toNat * (worked.chan c).size - 1)) := by
  refine ⟨?_, ?_, ?_⟩ <;> decide

theorem witness_SetupReadIsAnsweredAtItsArrival :
    (∀ off ∈ [0, 0x1FC], worked.classify (4 * (lines (0x0F0000 + off) true false).wordAddr.toNat) = .setup off ∧
      ∀ n, setupWordAt off ≠ .laneMirror n) ∧
    worked.classify (4 * (lines 0x0F0078 true false).wordAddr.toNat) = .setup 0x78 ∧ setupWordAt 0x78 = .laneMirror 3 ∧
    worked.resetn = true ∧ worked.host = ⟨.idle, none, false, false⟩ := by decide

theorem witness_StatusWordsHoldTheLiveFields :
    let s : State := { worked with
      nu := ⟨List.replicate 8 ⟨.txDone, 0, 0, 0, 0, 0⟩, 0, true, 255, 0xFFFF, .idle⟩ }
    s.nu.list.length ≤ 8 ∧ (s.nu.prod - s.nu.cons).toNat ≤ 256 ∧ 256 ≤ (s.nu.prod - s.nu.cons).toNat ∧
      (worked.lane 0).snd.queue.length ≤ 16 ∧ (worked.lane 0).rcv.rx.length ≤ 16 ∧ (worked.chan 0).slots.length ≤ 64 ∧
      (worked.chan 0).state = .running ∧ (worked.chan 7).state = .off ∧
      ∀ why ∈ [RunReason.inactive, .stallLimit], ((worked.setChan 7 { Channel.reset with
        state := .rejected why }).chan 7).state = .rejected why := by
  decide

theorem witness_MirrorReadGivesLiveLinesAndClearsTheFlag :
    State.reset.resetn = true ∧ State.reset.host = ⟨.idle, none, false, false⟩ ∧ State.reset.bypass = false ∧
      (State.reset.lane 3).mode = .mirror ∧ State.reset.lending 3 = false ∧
      { State.reset with bypass := true }.host = ⟨.idle, none, false, false⟩ := by decide

theorem witness_BothStrobesAreRefused :
    (lines 0 true true).rd = true ∧ (lines 0 true true).wr = true ∧ worked.host = ⟨.idle, none, false, false⟩ ∧
      (asking worked plainLoad).host.port = .waiting plainLoad ∧
      { worked with host := ⟨.held plainStore, none, false, true⟩ }.host.port = .held plainStore ∧
      { worked with host := ⟨.access plainStore .bare, none, false, true⟩ }.host.port = .access plainStore .bare ∧
      HostCycle.bare.abandoned = false ∧ { worked with host := ⟨.idle, none, false, true⟩ }.host.wrStrobe = true ∧
      { worked with host := ⟨.access plainStore ⟨true, false, none, none⟩, none, false, false⟩ }.host.port =
        .access plainStore ⟨true, false, none, none⟩ ∧ (HostCycle.mk true false none none).abandoned = true := by
  decide

theorem witness_HostGrantStartsTheMemoryCycle :
    let p : HostRecord := { payloadStore 0 7 15 with write := false }
    let h : HostRecord := { headerStore 1 3 0 with write := false }
    HostGranted (asking worked plainStore) plainStore ∧ plainStore.cls = .plain ∧
      HostGranted (asking worked p) p ∧ p.write = false ∧ p.cls = .slotPayload 0 7 15 ∧
      HostGranted (asking worked h) h ∧ h.write = false ∧ h.cls = .slotHeader 1 3 := by decide

/-- The plain slot writes, each with the held write it ends: payload words of FREE, FAILED and READY slots, and headers of an
IN FREE slot, of an OUT FREE slot with LENGTH 0, and of OUT FREE and FAILED slots with a byte of LENGTH not written. -/
theorem witness_HostGrantStartsTheMemoryCycle_plain_slot_writes :
    let partialHeader (be : Enables) : HostRecord := { headerStore 0 7 5 with be := be }
    (∀ st ∈ [SlotState.free, .failed],
      HostGranted (asking (holding worked 0 7 st 1 0) (payloadStore 0 7 15)) (payloadStore 0 7 15) ∧
        ((holding worked 0 7 st 1 0).slot 0 7).state = st ∧ (worked.chan 0).dir = .outbound ∧
        ∀ be ∈ [(0xE : Enables), 0xD, 0],
          HostGranted (asking (holding worked 0 7 st 1 0) (partialHeader be)) (partialHeader be) ∧
            (be.getLsbD 0 = false ∨ be.getLsbD 1 = false)) ∧
    (HostGranted (asking (holding worked 1 3 .ready 1 0) (payloadStore 1 3 31)) (payloadStore 1 3 31) ∧
      ((holding worked 1 3 .ready 1 0).slot 1 3).state = .ready) ∧
    (HostGranted (asking worked (headerStore 1 0 9)) (headerStore 1 0 9) ∧ (worked.chan 1).dir = .inbound ∧
      (worked.slot 1 0).state = .free) ∧
    (HostGranted (asking worked (headerStore 0 0 0)) (headerStore 0 0 0) ∧ HeaderWrite (headerStore 0 0 0) 0 0 0) ∧
    HostGranted { asking worked (payloadStore 0 7 15) with guard := ⟨some ⟨0, 7, 15, .slot⟩, some 9⟩ }
      (payloadStore 0 7 15) := by
  refine ⟨?_, ?_, ?_, ?_, ?_⟩ <;> decide

theorem witness_HostCompletionEndsTheAccess :
    let at' (r : HostRecord) (cyc : HostCycle) : State := { worked with host := ⟨.access r cyc, none, !r.write, r.write⟩ }
    (∀ cyc ∈ [HostCycle.bare, ⟨false, true, none, none⟩, ⟨false, false, some ⟨.sending, some 255⟩, none⟩,
        ⟨true, false, none, none⟩, ⟨true, false, none, some (lines 0x001000 true true)⟩],
      (at' plainLoad cyc).host.port = .access plainLoad cyc) ∧
      (at' plainStore .bare).host.port = .access plainStore .bare ∧
      (at' plainStore .bare).host.rdStrobe = false ∧ (at' plainLoad .bare).host.wrStrobe = false ∧
      (at' plainLoad .bare).resetn = true ∧
      { at' plainLoad .bare with host := ⟨.idle, none, true, true⟩ }.host.wrStrobe = true := by decide

theorem witness_ReleasedStrobesAbandonOrDropTheAnswer :
    (asking worked plainStore).host.port = .waiting plainStore ∧ (asking worked plainStore).host.answer = none ∧
      { worked with host := ⟨.held plainStore, none, false, true⟩ }.host.port = .held plainStore ∧
      { worked with host := ⟨.access plainLoad .bare, none, true, false⟩ }.host.port = .access plainLoad .bare ∧
      worked.host.port = .idle ∧ worked.host.answer = none ∧
      { worked with host := ⟨.idle, some ⟨true, true, true, none⟩, true, true⟩ }.host.answer = some ⟨true, true, true, none⟩ := by
  decide

theorem witness_ControlWriteTakesItsFields :
    let r := setupStore 0 0xF 0x00040301
    let s := asking { worked with dev := { worked.dev with active := false } } r
    HostGranted s r ∧ ControlWrite r ∧ ¬(s.dev.active = true ∧ writtenBit r 0 s.dev.active = false) ∧
      writtenField r 1 8 s.dev.ringSize = s.dev.ringSize ∧ s.dev.active = false ∧ writtenBit r 0 s.dev.active = true ∧
      r.be.getLsbD 0 = true ∧ (setupStore 0 0x4 0x000F0000).be.getLsbD 2 = true ∧
      ControlWrite (setupStore 0 0x4 0x000F0000) ∧
      (let b := setupStore 0 0xA 0xFFFF03FF
       HostGranted (asking worked b) b ∧ ControlWrite b ∧ b.be.getLsbD 0 = false ∧ b.be.getLsbD 2 = false ∧
        writtenField b 1 8 worked.dev.ringSize = worked.dev.ringSize ∧ writtenBit b 0 worked.dev.active = true) := by decide

/-- The control write that clears ACTIVE and asks for RING_SIZE 6, while lane 0 sends and lane 1 closes a record. -/
def clearing : HostRecord := setupStore 0 0xF 0x00040600

theorem witness_ActiveClearStopsEveryChannel :
    Inv (asking sending0 clearing) ∧ HostGranted (asking sending0 clearing) clearing ∧ ControlWrite clearing ∧
      (asking sending0 clearing).dev.active = true ∧ writtenBit clearing 0 true = false ∧
      ((asking sending0 clearing).lane 0).snd.cur ≠ none ∧ ((asking sending0 clearing).lane 2).snd.cur = none ∧
      writtenField clearing 1 8 (3 : BitVec 3) = 6 ∧ (asking sending0 clearing).nu.prod = (asking sending0 clearing).nu.cons ∧
      (ringExtent 0x0F1000 6).stop ≤ 0x1000000 ∧ (ringExtent 0x0F1000 6).overlaps worked.setupExtent = false ∧
      (∀ n : LaneId, ((asking sending0 clearing).lane n).rcv.rx = []) ∧
      writtenField (setupStore 0 0x1 0) 1 8 (3 : BitVec 3) = 3 := by
  refine ⟨?_, by decide⟩
  constructor <;> decide

theorem witness_RingBaseWriteIsChecked :
    let same := setupStore 4 0xF 0x000F1007
    let other := setupStore 4 0xF 0x00FFFF00
    let past := setupStore 4 0xF 0x00FFFFF8
    (HostGranted (asking worked same) same ∧ SetupWrite same .ringBase ∧ worked.writtenBase same = worked.dev.ringBase) ∧
    (worked.writtenBase other ≠ worked.dev.ringBase ∧ worked.dev.ringSize ≠ 7 ∧ worked.nu.prod = worked.nu.cons ∧
      RingFits worked (worked.writtenBase other) worked.dev.ringSize) ∧
    (worked.writtenBase past ≠ worked.dev.ringBase ∧ ¬RingFits worked (worked.writtenBase past) worked.dev.ringSize) ∧
    { worked with nu := { worked.nu with prod := 1 } }.nu.prod ≠ worked.nu.cons := by
  refine ⟨?_, ?_, ?_, ?_⟩ <;> decide

theorem witness_RingChangeIsCheckedInOrder :
    (∀ size ∈ [0, 6, 7], let r := setupStore 0 0x2 (BitVec.ofNat 32 (0x100 * size))
      HostGranted (asking worked r) r ∧ ControlWrite r ∧ BitVec.ofNat 3 size = writtenField r 1 8 worked.dev.ringSize ∧
        BitVec.ofNat 3 size ≠ worked.dev.ringSize ∧
        ¬(worked.dev.active = true ∧ writtenBit r 0 worked.dev.active = false)) ∧
    RingFits worked worked.dev.ringBase 6 ∧ ¬RingFits worked 0x0EFF08 6 := by
  refine ⟨?_, ?_, ?_⟩ <;> decide

theorem witness_ConsumerIndexIsAcceptedUpToTheProducer :
    let s : State := { worked with nu := ⟨[⟨.txDone, 0, 0, 0, 1, 0⟩], 1, false, 32, 0, .idle⟩ }
    ∀ c ∈ [0, 32, 33], let r := setupStore 8 0x3 (BitVec.ofNat 32 c)
      HostGranted (asking s r) r ∧ SetupWrite r .consumerIndex ∧
      (∀ i < 16, (BitVec.ofNat 16 c).getLsbD i =
        (if r.be.getLsbD (i / 8) then r.data.getLsbD i else s.nu.cons.getLsbD i)) ∧
      ((s.nu.prod - BitVec.ofNat 16 c).toNat ≤ (s.nu.prod - s.nu.cons).toNat ↔ c ≠ 33) := by decide

theorem witness_LostIsClearedAndLiveWordsIgnoreWrites :
    (∀ off ∈ [0x0C, 0x14, 0x4C, 0xFC, 0x118, 0x1FC], let r := setupStore off 0xF 0xFFFFFFFF
      HostGranted (asking worked r) r) ∧
    SetupWrite (setupStore 0x0C 0xF 0) .producerIndex ∧ SetupWrite (setupStore 0x14 0xF 0) .unused ∧
    SetupWrite (setupStore 0x4C 0xF 0) (.laneStatus 0) ∧ SetupWrite (setupStore 0xFC 0xF 0) .unused ∧
    SetupWrite (setupStore 0x118 0xF 0) (.chanStatus 0) ∧ SetupWrite (setupStore 0x1FC 0xF 0) (.chanCounts 7) ∧
    SetupWrite (setupStore 0x10 0x1 2) .deviceStatus ∧ (setupStore 0x10 0x1 2).data.getLsbD 1 = true ∧
    (setupStore 0x10 0xE 2).be.getLsbD 0 = false ∧ (setupStore 0x10 0xF 1).data.getLsbD 1 = false := by decide

theorem witness_ModeChangeIsCheckedAndResetsTheLane :
    let s : State := { State.reset with sbase := 0x0F }
    let dup := setupStore 0x60 0x1 3
    let odd := setupStore 0x50 0xF 3
    let send := setupStore 0x50 0xF 1
    (HostGranted (asking s dup) dup ∧ SetupWrite dup (.laneMode 2) ∧ LaneMode.duplex.code = field (s.modeWritten 2 dup) 0 2 ∧
      LaneMode.duplex ≠ (s.lane 2).mode ∧ ¬LaneBound s 2 ∧ ¬PartnerRefuses s 2 .duplex) ∧
    (HostGranted (asking s odd) odd ∧ SetupWrite odd (.laneMode 1) ∧ LaneMode.duplex.code = field (s.modeWritten 1 odd) 0 2 ∧
      LaneMode.duplex ≠ (s.lane 1).mode ∧ ¬LaneBound s 1 ∧ PartnerRefuses s 1 .duplex) ∧
    (HostGranted (asking worked send) send ∧ LaneMode.send.code = field (worked.modeWritten 1 send) 0 2 ∧
      LaneMode.send ≠ (worked.lane 1).mode ∧ LaneBound worked 1) := by decide

theorem witness_MasksAreTakenWithModeUnchanged :
    let r := setupStore 0x70 0xF 0x3FFFFF04
    HostGranted (asking worked r) r ∧ SetupWrite r (.laneMode 3) ∧
      (worked.lane 3).mode.code = field (worked.modeWritten 3 r) 0 2 := by decide

theorem witness_LimitAndLatchWritesTakeTheirBytes :
    (∀ r ∈ [setupStore 0x74 0x5 0xFFFFFFFF, setupStore 0x10C 0xF 0xFF, setupStore 0x78 0x2 0xFFFFFFFF],
      HostGranted (asking worked r) r) ∧
    SetupWrite (setupStore 0x74 0x5 0xFFFFFFFF) (.laneTimer 3) ∧ SetupWrite (setupStore 0x10C 0xF 0xFF) (.chanStall 0) ∧
    SetupWrite (setupStore 0x78 0x2 0xFFFFFFFF) (.laneMirror 3) := by decide

theorem witness_RunRequestIsValidatedInOrder :
    let r := setupStore 0x160 0x3 0x00000321
    let good := asking (worked.setChan 3 { Channel.reset with base := 0x050000, count := 1 }) r
    HostGranted good r ∧ SetupWrite r (.chanControl 3) ∧ (good.chan 3).state ≠ .running ∧ r.be.getLsbD 0 = true ∧
      r.data.getLsbD 0 = true ∧ good.firstFailure 3 ((good.chan 3).bound r) = none ∧
      (∀ p ∈ [(0x050000, (0 : BitVec 7), RunReason.geometry), (0x050008, 1, .align), (0xFFFFF0, 2, .range),
          (0x0F0000, 1, .overlapSetup), (0x0F1000, 1, .overlapRing), (0x0201F0, 1, .overlapChannel)],
        let s := asking (worked.setChan 3 { Channel.reset with base := BitVec.ofNat 24 p.1, count := p.2.1 }) r
        s.firstFailure 3 ((s.chan 3).bound r) = some p.2.2) := by decide

theorem witness_OutboundChannelIsStopped :
    let r := setupStore 0x100 0x1 0
    let r2 := setupStore 0x140 0x1 0
    Inv (asking sending0 r) ∧ Inv (asking sending0 r2) ∧
      (HostGranted (asking sending0 r) r ∧ SetupWrite r (.chanControl 0) ∧ (sending0.chan 0).state = .running ∧
        (sending0.chan 0).dir = .outbound ∧ r.be.getLsbD 0 = true ∧ r.data.getLsbD 0 = false ∧
        ∃ q ∈ (sending0.lane 0).snd.cur, q.chan = 0) ∧
      (HostGranted (asking sending0 r2) r2 ∧ SetupWrite r2 (.chanControl 2) ∧ (sending0.chan 2).state = .running ∧
        (sending0.chan 2).dir = .outbound ∧ ∀ q ∈ (sending0.lane 2).snd.cur, q.chan ≠ 2) := by
  refine ⟨?_, ?_, by decide⟩ <;> constructor <;> decide

/-- Channel 1 fills slot 0, five bytes stored and the last of them gathered. -/
def filling1 : State := (holding worked 1 0 .filling 5 0).setRcv 1 { RecvSide.reset with
  putState := .record, state := .filling ⟨1, 0, false⟩, gather := [4] }

/-- Lane 1 waits for a slot of channel 1, whose slots are all READY. -/
def waiting1 : State := (worked.setChan 1 { chan1 with slots := List.replicate 4 ⟨.ready, 1, 0⟩ }).setRcv 1
  { RecvSide.reset with state := .slotWait 1 true, slotWaitTimer := some 192 }

theorem witness_InboundChannelIsStopped :
    let r := setupStore 0x120 0x1 0
    (Inv (asking worked r) ∧ Inv (asking filling1 r) ∧ Inv (asking closing1 r) ∧ Inv (asking waiting1 r)) ∧
      HostGranted (asking worked r) r ∧ SetupWrite r (.chanControl 1) ∧ (worked.chan 1).state = .running ∧
      (worked.chan 1).dir = .inbound ∧ r.be.getLsbD 0 = true ∧ r.data.getLsbD 0 = false ∧
      (worked.lane 1).rcv.state = .idle ∧ (filling1.lane 1).rcv.state = .filling ⟨1, 0, false⟩ ∧
      (filling1.lane 1).rcv.rx = [] ∧ (closing1.lane 1).rcv.state = .closing ⟨1, 0, false⟩ ∧
      (closing1.lane 1).rcv.rx = [] ∧ (waiting1.lane 1).rcv.state = .slotWait 1 true ∧ (waiting1.lane 1).rcv.rx = [] := by
  refine ⟨⟨?_, ?_, ?_, ?_⟩, by decide⟩ <;> constructor <;> decide

theorem witness_ControlWritesTakeBindingOrGuard :
    let off := worked.setChan 0 .reset
    (∀ r ∈ [setupStore 0x100 0x2 0xF00, setupStore 0x100 0xF 0x00030F32],
      HostGranted (asking off r) r ∧ SetupWrite r (.chanControl 0)) ∧
    (off.chan 0).state ≠ .running ∧ (setupStore 0x100 0x2 0xF00).be.getLsbD 0 = false ∧
    (setupStore 0x100 0xF 0x00030F32).be.getLsbD 0 = true ∧ (setupStore 0x100 0xF 0x00030F32).data.getLsbD 0 = false ∧
    (∀ r ∈ [setupStore 0x100 0x4 0x00020000, setupStore 0x100 0xF 0x00030001],
      HostGranted (asking worked r) r ∧ (worked.chan 0).state = .running ∧
        (r.be.getLsbD 0 = false ∨ r.data.getLsbD 0 = true)) := by decide

theorem witness_GeometryWritesNeedAStoppedChannel :
    let off := worked.setChan 7 .reset
    (∀ r ∈ [setupStore 0x1E4 0x7 0xFFFFFF, setupStore 0x1E8 0x3 0x4008], HostGranted (asking off r) r) ∧
    (off.chan 7).state ≠ .running ∧ SetupWrite (setupStore 0x1E4 0x7 0xFFFFFF) (.chanBase 7) ∧
    SetupWrite (setupStore 0x1E8 0x3 0x4008) (.chanGeometry 7) ∧
    HostGranted (asking worked (setupStore 0x104 0xF 0)) (setupStore 0x104 0xF 0) ∧ (worked.chan 0).state = .running ∧
    SetupWrite (setupStore 0x104 0xF 0) (.chanBase 0) := by decide

theorem witness_EnableWritesSetAndClear :
    (∀ r ∈ [setupStore 0x1F0 0x1 0x3F, setupStore 0x1F4 0x1 0x3F, setupStore 0 0x1 0x80],
      HostGranted (asking worked r) r) ∧
    SetupWrite (setupStore 0x1F0 0x1 0x3F) (.enableSet 7) ∧ SetupWrite (setupStore 0x1F4 0x1 0x3F) (.enableClear 7) ∧
    SetupWrite (setupStore 0 0x1 0x80) .deviceControl ∧ (setupStore 0 0x1 0x80).data.getLsbD 7 = true := by decide

/-- A commit of the largest LENGTH of channel 0 to its last slot. -/
def full : HostRecord := headerStore 0 7 60

theorem witness_CommitJoinsTheQueue :
    let failed := asking (holding sending0 0 7 .failed 1 0) full
    let dup := headerStore 2 1 1
    HostGranted (asking sending0 full) full ∧ HeaderWrite full 0 7 60 ∧ (sending0.chan 0).dir = .outbound ∧
      60 ≤ (sending0.chan 0).capacity ∧ (sending0.lane 0).snd.queue.length < 16 ∧ (sending0.lane 0).mode = .send ∧
      (sending0.lane 0).snd.cur ≠ none ∧ (sending0.slot 0 7).state = .free ∧ (failed.slot 0 7).state = .failed ∧
      HostGranted (asking (worked.setTurn 2 ⟨.inn, .inbound, true, false⟩) dup) dup ∧ HeaderWrite dup 2 1 1 ∧
      ((worked.setTurn 2 ⟨.inn, .inbound, true, false⟩).lane 2).turn.turn ≠ .idle := by decide

theorem witness_CommitStartsAnIdleLane :
    let dup := headerStore 2 1 12
    HostGranted (asking worked full) full ∧ HeaderWrite full 0 7 60 ∧ 60 ≤ (worked.chan 0).capacity ∧
      7 < (worked.chan 0).slots.length ∧ (worked.lane 0).snd = SendSide.reset ∧ (worked.lane 0).mode = .send ∧
      (worked.slot 0 7).state = .free ∧ ((holding worked 0 7 .failed 1 0).slot 0 7).state = .failed ∧
      HostGranted (asking worked dup) dup ∧ HeaderWrite dup 2 1 12 ∧ 12 ≤ (worked.chan 2).capacity ∧
      (worked.lane 2).mode = .duplex ∧ (worked.lane 2).turn = ⟨.idle, .inbound, false, false⟩ ∧
      ((worked.setTurn 2 ⟨.idle, .outbound, true, false⟩).lane 2).turn = ⟨.idle, .outbound, true, false⟩ := by decide

theorem witness_TooLongACommitIsRefused :
    let r := headerStore 0 7 61
    let s := asking (worked.setChan 0 { chan0 with guard := 1 }) r
    HostGranted s r ∧ HeaderWrite r 0 7 61 ∧ (s.chan 0).dir = .outbound ∧ (s.chan 0).capacity < 61 ∧
      (s.chan 0).guard = 1 ∧ (s.slot 0 7).state = .free ∧ ((holding s 0 7 .failed 1 0).slot 0 7).state = .failed := by
  decide

/-- Channel 0 with a guard and a stall limit, on a lane whose send queue holds 16 entries. -/
def crowded (guard : BitVec 2) (limit : BitVec 8) : State :=
  sending (worked.setChan 0 { chan0 with guard := guard, stallLimit := limit }) 0
    { SendSide.reset with queue := List.replicate 16 ⟨0, 0⟩, strobe := some 1 }

theorem witness_CommitIntoAFullQueue :
    (∀ g ∈ [0, 1, 2], ∀ l ∈ [0, 255], let s := crowded (BitVec.ofNat 2 g) (BitVec.ofNat 8 l)
      HostGranted (asking s full) full ∧ (s.chan 0).guard = BitVec.ofNat 2 g ∧ (s.lane 0).snd.queue.length = 16 ∧
        (s.slot 0 7).state = .free ∧ (s.chan 0).stallLimit = BitVec.ofNat 8 l ∧ s.guard.held = none) ∧
    (HeaderWrite full 0 7 60 ∧ 60 ≤ ((crowded 0 0).chan 0).capacity) ∧
    HostGranted { asking (crowded 2 1) full with guard := ⟨some ⟨0, 7, 0, .slot⟩, some 9⟩ } full := by
  refine ⟨?_, ?_, ?_⟩ <;> decide

theorem witness_ZeroLengthWithdrawsOrGivesUp :
    let r := headerStore 0 7 0
    let s := asking (holding worked 0 7 .committed 60 255) r
    let f := asking (holding worked 0 7 .failed 60 255) r
    HostGranted s r ∧ HostGranted f r ∧ HeaderWrite r 0 7 0 ∧ (s.chan 0).dir = .outbound ∧
      (s.slot 0 7).state = .committed ∧ (f.slot 0 7).state = .failed := by decide

theorem witness_ReleaseFreesTheSlot :
    let r := headerStore 1 3 0xFFFFFFFF
    let s := asking (holding worked 1 3 .ready 124 255) r
    (HostGranted s r ∧ r.cls = .slotHeader 1 3 ∧ r.write = true ∧ (s.chan 1).dir = .inbound ∧
      (s.slot 1 3).state = .ready ∧ (s.lane 1).rcv.state = .idle) ∧
    (HostGranted (asking waiting1 r) r ∧ (waiting1.slot 1 3).state = .ready ∧
      (waiting1.lane 1).rcv.state = .slotWait 1 true ∧ (waiting1.lane 1).rcv.rx = [] ∧
      3 < (waiting1.chan 1).count.toNat ∧ (waiting1.chan 1).slots.length = (waiting1.chan 1).count.toNat ∧
      (waiting1.chan 1).fillPtr < (waiting1.chan 1).count.toNat ∧
      ∀ j < (waiting1.chan 1).count.toNat, (waiting1.slot 1 j).state ≠ .free) := by decide

/-- Slot 0 of channel 0 is SENDING, under a guard and a stall limit. -/
def guarded (guard : BitVec 2) (limit : BitVec 8) : State :=
  sending0.setChan 0 { sending0.chan 0 with guard := guard, stallLimit := limit }

theorem witness_GuardedWriteIsDiscarded :
    (∀ r ∈ [headerStore 0 0 0, payloadStore 0 0 1, payloadStore 0 0 15],
      HostGranted (asking (guarded 0 0) r) r ∧ ((guarded 0 0).chan 0).guard = 0) ∧
    GuardedWrite (guarded 0 0) (headerStore 0 0 0) 0 0 0 ∧ GuardedWrite (guarded 0 0) (payloadStore 0 0 15) 0 0 15 := by
  decide

theorem witness_GuardedWriteIsRejected :
    (∀ r ∈ [headerStore 0 0 0, payloadStore 0 0 15],
      HostGranted (asking (guarded 1 0) r) r ∧ ((guarded 1 0).chan 0).guard = 1) ∧
    GuardedWrite (guarded 1 0) (headerStore 0 0 0) 0 0 0 ∧ GuardedWrite (guarded 1 0) (payloadStore 0 0 15) 0 0 15 := by
  decide

theorem witness_GuardedWriteIsHeld :
    let r := payloadStore 0 0 15
    (∀ l ∈ [0, 255], let s := guarded 2 (BitVec.ofNat 8 l)
      HostGranted (asking s r) r ∧ GuardedWrite s r 0 0 15 ∧ (s.chan 0).guard = 2 ∧
        (s.chan 0).stallLimit = BitVec.ofNat 8 l ∧ s.guard.held = none) ∧
    HostGranted { asking (guarded 2 1) r with guard := ⟨some ⟨0, 0, 15, .slot⟩, some 4⟩ } r := by decide

theorem witness_NoHostWriteReachesAPartOwnedSlot :
    let r := payloadStore 1 0 31
    HostGranted (asking closing1 r) r ∧ GuardedWrite closing1 r 1 0 31 := by decide

theorem witness_StallTimerEndsTheHeldWrite :
    let at' (reason : HoldReason) (port : HostPort) : State := { worked with
      now := 100, host := ⟨port, none, false, true⟩, guard := ⟨some ⟨0, 2, 0, reason⟩, some 100⟩ }
    let r := headerStore 0 2 1
    (at' .slot (.held r)).guard = ⟨some ⟨0, 2, 0, .slot⟩, some 100⟩ ∧ (at' .slot (.held r)).host.port = .held r ∧
      (at' .queue (.waiting r)).guard = ⟨some ⟨0, 2, 0, .queue⟩, some 100⟩ ∧
      (at' .queue (.waiting r)).host.port = .waiting r ∧ 100 ≤ (at' .slot (.held r)).now ∧
      { at' .slot (.held r) with now := 99 }.now < 100 := by decide

theorem witness_HeldWriteIsWoken :
    let r := payloadStore 0 0 15
    let s : State := { sending0 with host := ⟨.held r, none, false, true⟩, guard := ⟨some ⟨0, 0, 15, .slot⟩, some 9⟩ }
    let q : State := { sending (holding worked 0 1 .committed 1 0) 0 { SendSide.reset with queue := [⟨0, 1⟩] } with
      host := ⟨.held (headerStore 0 2 1), none, false, true⟩, guard := ⟨some ⟨0, 2, 0, .queue⟩, some 9⟩ }
    s.host.port = .held r ∧ s.guard.held = some ⟨0, 0, 15, .slot⟩ ∧
      (s.lane 0).snd.cur = some ⟨0, 0, 6, 0, 0, true⟩ ∧ q.guard.held = some ⟨0, 2, 0, .queue⟩ ∧
      (q.lane 0).snd.queue = [⟨0, 1⟩] ∧ (q.lane 0).snd.cur = none ∧ (q.lane 0).snd.strobe = none ∧
      (q.chan 0).lane = 0 := by decide

theorem witness_ArbiterGrantsInCircleOrder :
    let impatient : State := { asking sending0 plainStore with arb := ⟨none, 8, 4, .opened [.host, .send 0]⟩ }
    let patient : State := { impatient with arb := ⟨none, 8, 3, .opened [.host, .send 0]⟩ }
    let joined : State := { impatient with arb := ⟨none, 8, 4, .opened []⟩ }
    (RingLaw sending0 ∧ RecordLaw sending0 ∧ sending0.arb.port = none ∧ sending0.internalContending = true ∧
      sending0.stands .host = false ∧ sending0.presented (requesterAt 1) = true) ∧
    (RingLaw impatient ∧ RecordLaw impatient ∧ impatient.internalContending = true ∧ impatient.stands .host = true ∧
      impatient.stands (requesterAt 1) = true ∧ impatient.dev.patience ≤ impatient.arb.patienceCtr) ∧
    ((busy sending0 .notice ⟨0, 0, none⟩).arb.port ≠ none ∧ worked.internalContending = false ∧
      patient.stands .host = true ∧ patient.arb.patienceCtr < patient.dev.patience) ∧
    (sending0.contends .host = false ∧ impatient.internalStanding = true ∧ joined.internalStanding = false ∧
      joined.internalJoining = true ∧ joined.dev.patience ≤ joined.arb.patienceCtr ∧ sending0.internalJoining = false ∧
      sending0.internalStanding = false) ∧
    (sending0.contends (.send 0) = true ∧ worked.arb = sending0.arb ∧ worked.presented (.send 0) = false ∧
      (∀ p, worked.contends (requesterAt p) = false) ∧ worked.contends .host = false ∧
      sending0.presented (.send 0) = true) := by
  refine ⟨⟨?_, ?_, ?_⟩, ⟨?_, ?_, ?_⟩, ?_, ?_, ?_⟩ <;> decide

/-- A notice waits for its word 0, or its word 1, with the ring's last record free. -/
def noticing (w : WriterState) : State := { worked with nu := ⟨[⟨.txDone, 0, 0, 0, 6, 17⟩], 18, false, 31, 0, w⟩ }

theorem witness_GrantedAccessFallsWhereItMay :
    (Inv sending0 ∧ sending0.arb.port = none ∧ ∃ t a, exec .memoryPortGrant sending0 = .next t ∧
      t.arb.port = some ⟨.send 0, a⟩) ∧
    (Inv closing1 ∧ closing1.arb.port = none ∧ ∃ t a, exec .memoryPortGrant closing1 = .next t ∧
      t.arb.port = some ⟨.recv 1, a⟩) ∧
    (∀ w ∈ [WriterState.word0Waiting, .word1Waiting], Inv (noticing w) ∧ (noticing w).arb.port = none ∧
      ∃ t a, exec .memoryPortGrant (noticing w) = .next t ∧ t.arb.port = some ⟨.notice, a⟩) := by
  refine ⟨⟨?_, rfl, _, _, rfl, rfl⟩, ⟨?_, rfl, _, _, rfl, rfl⟩, ?_⟩
  · constructor <;> decide
  · constructor <;> decide
  · intro w hw
    simp only [List.mem_cons, List.not_mem_nil, or_false] at hw
    rcases hw with h | h <;> subst h <;> refine ⟨?_, rfl, _, _, rfl, rfl⟩ <;> constructor <;> decide

/-- Lane 0 reads for slot 0: with the mover, the bytes read, and the offer given. -/
def reading (m : Mover) (read : Nat) (offering : Bool) : State :=
  busy (sending0.setSnd 0 { (sending0.lane 0).snd with mover := m, cur := some ⟨0, 0, 6, read, read, offering⟩ })
    (.send 0) ⟨0x020004, 0xF, none⟩

theorem witness_SendReadFeedsTheLines :
    (∀ m ∈ [Mover.busy, .orphaned], ∀ k ∈ [0, 4], ∀ o ∈ [true, false],
      (reading m k o).arb.port = some ⟨.send 0, ⟨0x020004, 0xF, none⟩⟩ ∧ ((reading m k o).lane 0).snd.mover = m ∧
        ((reading m k o).lane 0).snd.cur = some ⟨0, 0, 6, k, k, o⟩ ∧ ((reading m k o).lane 0).snd.tx = []) ∧
    ((sending0.setSnd 0 { SendSide.reset with mover := .orphaned }).lane 0).snd.cur = none := by decide

theorem witness_FailedRecordGivesTheStrobeAndIsReported :
    (sending0.lane 0).snd.cur = some ⟨0, 0, 6, 0, 0, true⟩ ∧ (sending0.lane 0).snd.takeTimer = some 256 ∧
      256 ≤ { sending0 with now := 256 }.now ∧ { sending0 with now := 255 }.now < 256 ∧
      ((reading .busy 4 false).lane 0).snd.takeTimer = some 256 ∧
      ((sending0.setSnd 0 { (sending0.lane 0).snd with takeTimer := none }).lane 0).snd.takeTimer = none ∧
      (reading .busy 4 true).arb.port = some ⟨.send 0, ⟨0x020004, 0xF, none⟩⟩ ∧
      ((reading .busy 4 true).lane 0).snd.mover = .busy := by decide

/-- Lane 0 offers, with a TAKE pulse that met the offer: `offered` payload bytes offered, `tx` buffered, `queue` behind. -/
def offering (mode : LaneMode) (offered : Nat) (tx : List Byte) (queue : List QueueEntry) : State :=
  sending0.setLane 0 { sending0.lane 0 with
    mode := mode
    snd := { SendSide.reset with
      queue := queue, cur := some ⟨0, 0, 6, 6, offered, true⟩, tx := tx, takePulse := some true } }

theorem witness_TakeOffersTheNextByte :
    (∀ m ∈ [LaneMode.send, .duplex], ((offering m 5 [7] []).lane 0).mode = m) ∧ (worked.lane 3).mode = .mirror ∧
      (worked.lane 1).mode = .receive ∧ (worked.lane 0).snd.takePulse ≠ some true ∧
      ((offering .send 5 [7] []).lane 0).snd.takePulse = some true ∧
      ((offering .send 5 [7] []).lane 0).snd.cur = some ⟨0, 0, 6, 6, 5, true⟩ ∧
      ((offering .send 5 [7] []).lane 0).snd.tx = [7] ∧ ((offering .send 5 [7] []).lane 0).snd.strobe = none ∧
      ((offering .send 0 [] []).lane 0).snd.tx = [] ∧
      ((offering .send 0 [] []).lane 0).snd.cur = some ⟨0, 0, 6, 6, 0, true⟩ := by decide

theorem witness_LastTakeCompletesTheRecord :
    (∀ m ∈ [LaneMode.send, .duplex], ∀ q ∈ [[], [QueueEntry.mk 0 1]],
      ((offering m 6 [] q).lane 0).mode = m ∧ ((offering m 6 [] q).lane 0).snd.takePulse = some true ∧
        ((offering m 6 [] q).lane 0).snd.cur = some ⟨0, 0, 6, 6, 6, true⟩ ∧ ((offering m 6 [] q).lane 0).snd.queue = q ∧
        ((offering m 6 [] q).lane 0).snd.strobe = none) := by decide

theorem witness_StrobeEndLetsTheLaneGoOn :
    (∀ m ∈ [LaneMode.send, .duplex], ∀ q ∈ [[], [QueueEntry.mk 0 1]], ∀ now ∈ [8, 9],
      let s : State := { sending0.setLane 0 { sending0.lane 0 with
        mode := m, snd := { SendSide.reset with queue := q, strobe := some 9 } } with now := now }
      (s.lane 0).snd.strobe = some 9 ∧ (s.lane 0).mode = m ∧ (s.lane 0).snd.queue = q ∧ (s.lane 0).snd.cur = none ∧
        s.now = now) := by decide

/-- Lane 2 sends slot 0 of channel 2 in its turn T_OUT, with WANT asserted and another entry queued. -/
def turnedOut : State := ((holding worked 2 0 .sending 6 0).setSnd 2 { SendSide.reset with
  queue := [⟨2, 1⟩], cur := some ⟨2, 0, 6, 0, 0, true⟩ }).setTurn 2 ⟨.out, .inbound, true, false⟩

theorem witness_TurnFollowsWantAndTheQueue :
    (worked.lane 0).mode ≠ .duplex ∧
    ((turnedOut.lane 2).mode = .duplex ∧ (turnedOut.lane 2).turn.turn = .out ∧ (turnedOut.lane 2).turn.want = true ∧
      ModeLaw turnedOut) ∧
    (∀ t ∈ [Turn.idle, .inn], ∀ last ∈ [Direction.inbound, .outbound], ∀ want ∈ [true, false], ∀ put ∈ [true, false],
      ∀ q ∈ [[], [QueueEntry.mk 2 1]],
      let s := (sending worked 2 { SendSide.reset with queue := q }).setTurn 2 ⟨t, last, want, put⟩
      (s.lane 2).mode = .duplex ∧ (s.lane 2).turn = ⟨t, last, want, put⟩ ∧ (s.lane 2).snd.queue = q ∧
        (s.lane 2).snd.cur = none ∧ (s.lane 2).snd.strobe = none) := by
  refine ⟨?_, ?_, ?_⟩ <;> decide

/-- Lane 1 with a put state, a full or empty buffer, a MARK pulse and a byte timer due at 5. -/
def putting (p : PutState) (rx : List RxEntry) : State := worked.setRcv 1 { RecvSide.reset with
  putState := p, rx := rx, state := .slotWait 1 false, markPulse := some false, byteTimer := some 5 }

theorem witness_PutJoinsTheBufferOrOverruns :
    ¬((worked.lane 0).mode = .receive ∨ ((worked.lane 0).mode = .duplex ∧ (worked.lane 0).turn.turn = .inn)) ∧
    (∀ p ∈ [PutState.gap, .record, .skip], ((putting p []).lane 1).rcv.rx.length < 16 ∧
      ((putting p (List.replicate 15 ⟨0, false, none⟩)).lane 1).rcv.rx.length < 16 ∧
      16 ≤ ((putting p (List.replicate 15 ⟨0, false, none⟩ ++ [⟨0, false, none⟩])).lane 1).rcv.rx.length ∧
      ((putting p []).lane 1).mode = .receive) ∧
    ((worked.setTurn 2 ⟨.inn, .inbound, true, false⟩).lane 2).turn.turn = .inn ∧
    ((putting .gap []).lane 1).rcv.consumes = false ∧
    ((worked.setRcv 1 { RecvSide.reset with rx := [⟨5, false, none⟩] }).lane 1).rcv.consumes = true := by decide

theorem witness_ConsumedEntryActsByTheState :
    (worked.lane 1).rcv.state = .idle ∧
    (∀ c, ¬(worked.serves c .inbound 1 = true ∧ (worked.chan c).route = (0xF4 : Byte).extractLsb' 0 4)) ∧
    (∀ d, (worked.serves d .inbound 1 = true ∧ (worked.chan d).route = (0xF5 : Byte).extractLsb' 0 4) ↔ d = 1) ∧
    (worked.chan 1).fillPtr < (worked.chan 1).count.toNat ∧ (worked.slot 1 0).state = .free ∧
    (∀ j, j < (worked.chan 1).count.toNat → (0 + (worked.chan 1).count.toNat - (worked.chan 1).fillPtr) %
      (worked.chan 1).count.toNat ≤ (j + (worked.chan 1).count.toNat - (worked.chan 1).fillPtr) % (worked.chan 1).count.toNat) ∧
    (∀ j < (waiting1.chan 1).count.toNat, (waiting1.slot 1 j).state ≠ .free) ∧
    (filling1.lane 1).rcv.state = .filling ⟨1, 0, false⟩ ∧ (filling1.slot 1 0).len < (filling1.chan 1).capacity ∧
    ((holding filling1 1 0 .filling 124 0).chan 1).capacity ≤ ((holding filling1 1 0 .filling 124 0).slot 1 0).len ∧
    ((worked.setRcv 1 { RecvSide.reset with state := .discarding }).lane 1).rcv.state = .discarding := by decide

theorem witness_EndMarkDropsTheRecord :
    (filling1.lane 1).rcv.state = .filling ⟨1, 0, false⟩ ∧ ((putting .record []).lane 1).rcv.state = .slotWait 1 false ∧
      ((worked.setRcv 1 { RecvSide.reset with state := .discarding }).lane 1).rcv.state = .discarding ∧
      (waiting1.lane 1).rcv.state = .slotWait 1 true ∧ (closing1.lane 1).rcv.state = .closing ⟨1, 0, false⟩ ∧
      (worked.lane 1).rcv.state = .idle := by decide

theorem witness_AbortAndByteTimerMarkTheRecord :
    (worked.lane 1).rcv.markPulse ≠ some false ∧ (worked.lane 1).mode = .receive ∧
    (∀ p ∈ [PutState.gap, .record, .skip], ∀ rx ∈ [[], [RxEntry.mk 0 false none]],
      ((putting p rx).lane 1).rcv.putState = p ∧ ((putting p rx).lane 1).rcv.rx = rx ∧
        ((putting p rx).lane 1).rcv.markPulse = some false ∧ ((putting p rx).lane 1).rcv.byteTimer = some 5 ∧
        (putting p rx).now < 5 ∧ 5 ≤ { putting p rx with now := 5 }.now) := by decide

theorem witness_SlotWaitExpiryDropsTheRecord :
    (waiting1.lane 1).rcv.state = .slotWait 1 true ∧ (waiting1.lane 1).rcv.slotWaitTimer = some 192 ∧
      { waiting1 with now := 191 }.now < 192 ∧ 192 ≤ { waiting1 with now := 192 }.now := by decide

theorem witness_ReceiveWriteCompletes :
    let at' (st : RecvState) (m : Mover) (g : List Byte) : State :=
      busy (closing1.setRcv 1 { RecvSide.reset with state := st, mover := m, gather := g }) (.recv 1) ⟨0x030008, 0x3, some 0⟩
    (∀ st ∈ [RecvState.filling ⟨1, 0, false⟩, .closing ⟨1, 0, true⟩, .idle], ∀ m ∈ [Mover.busy, .orphaned],
      ∀ g ∈ [[], [(1 : Byte), 2]],
      (at' st m g).arb.port = some ⟨.recv 1, ⟨0x030008, 0x3, some 0⟩⟩ ∧ ((at' st m g).lane 1).rcv.state = st ∧
        ((at' st m g).lane 1).rcv.mover = m ∧ ((at' st m g).lane 1).rcv.gather = g) := by decide

theorem witness_WatchSampleReportsChangedLines :
    worked.resetn = true ∧ worked.bypass = false ∧ { worked with bypass := true }.bypass = true ∧
      { worked with resetn := false }.resetn = false := by decide

theorem witness_NoticeWordCompletes :
    ∀ w ∈ [WriterState.word0Writing, .word1Writing],
      (busy (noticing w) .notice ⟨0x0F10F8, 0xF, some 1⟩).arb.port = some ⟨.notice, ⟨0x0F10F8, 0xF, some 1⟩⟩ ∧
        (noticing w).nu.writer = w ∧ (noticing w).nu.prod + 1 ≠ (noticing w).nu.cons := by decide

theorem witness_EveryStepKeepsTheRingLaw :
    RingLaw { worked with pending := [.memoryPortGrant] } ∧
      ∃ t, step { worked with pending := [.memoryPortGrant] } = .next t := ⟨by decide, _, rfl⟩

theorem witness_EveryStepKeepsTheLaws :
    Inv { sending0 with pending := [.memoryPortGrant] } ∧
      ∃ t, step { sending0 with pending := [.memoryPortGrant] } = .next t := by
  refine ⟨?_, _, rfl⟩
  constructor <;> decide

end Sys2Proof.Tests
end

section
/-! SUPPORT. The notify enables of the channels (R52): the shared operations that leave every channel's enables as they are,
the two writes that change them, and the two resets that clear them. -/

namespace Sys2Proof.Machine

/-! ### Notices, counts, wakes and slots leave the enables -/

/-- A channel record with the enables it had before leaves every channel's enables. -/
theorem State.setChan_enables {s : State} {c : ChanId} {ch : Channel} (h : ch.enables = (s.chan c).enables) (d : ChanId) :
    ((s.setChan c ch).chan d).enables = (s.chan d).enables := by
  rw [State.chan_setChan]
  split
  · next hcd => rw [h, hcd]
  · rfl

@[simp] theorem State.setSlot_enables (s : State) (c : ChanId) (k : Nat) (r : SlotRec) (d : ChanId) :
    ((s.setSlot c k r).chan d).enables = (s.chan d).enables := State.setChan_enables (by rfl) d

@[simp] theorem State.countFault_enables (s : State) (c d : ChanId) :
    ((s.countFault c).chan d).enables = (s.chan d).enables := State.setChan_enables (by rfl) d

@[simp] theorem State.startWriter_chan (s : State) (d : ChanId) : s.startWriter.chan d = s.chan d := by
  rw [State.startWriter_eq]; rfl

@[simp] theorem State.generate_chan (s : State) (kind : NoticeKind) (source slot seq : Byte) (detail : BitVec 16)
    (d : ChanId) : (s.generate kind source slot seq detail).chan d = s.chan d := by
  rw [State.generate_eq]; rfl

@[simp] theorem State.chanNotice_chan (s : State) (c : ChanId) (kind : NoticeKind) (slot seq : Byte) (detail : BitVec 16)
    (d : ChanId) : (s.chanNotice c kind slot seq detail).chan d = s.chan d := by
  rw [State.chanNotice_eq]; rfl

@[simp] theorem State.setupRejected_chan (s : State) (source : Byte) (reason : BitVec 16) (d : ChanId) :
    (s.setupRejected source reason).chan d = s.chan d := State.generate_chan ..

@[simp] theorem State.wakeSlot_chan (s : State) (c : ChanId) (k : Nat) (d : ChanId) :
    (s.wakeSlot c k).chan d = s.chan d := by
  rw [State.wakeSlot_eq]; rfl

@[simp] theorem State.freeSlot_enables (s : State) (c : ChanId) (k : Nat) (d : ChanId) :
    ((s.freeSlot c k).chan d).enables = (s.chan d).enables := by
  rw [State.freeSlot_eq, State.wakeSlot_chan, State.setSlot_enables]

/-! ### What a receive side consumes leaves the enables -/

@[simp] theorem State.dropRecord_enables (s : State) (n : LaneId) (r : FillRecord) (detail : BitVec 16) (after : RecvState)
    (d : ChanId) : ((s.dropRecord n r detail after).chan d).enables = (s.chan d).enables := by
  simp [State.dropRecord]

@[simp] theorem State.dropWaiting_enables (s : State) (n : LaneId) (c : ChanId) (detail : BitVec 16) (after : RecvState)
    (d : ChanId) : ((s.dropWaiting n c detail after).chan d).enables = (s.chan d).enables := by
  simp [State.dropWaiting]

@[simp] theorem State.takeMark_enables (s : State) (n : LaneId) (m : EndMark) (d : ChanId) :
    ((s.takeMark n m).chan d).enables = (s.chan d).enables := by
  unfold State.takeMark
  split
  · simp
  · split <;> simp
  · simp
  · rfl
  · rfl

@[simp] theorem State.pick_enables (s : State) (n : LaneId) (c : ChanId) (k : Nat) (d : ChanId) :
    ((s.pick n c k).chan d).enables = (s.chan d).enables := by
  unfold State.pick
  rw [State.setRcv_chan, State.setChan_enables (by rfl), State.setSlot_enables]

@[simp] theorem State.routeRecord_enables (s : State) (n : LaneId) (b : Byte) (d : ChanId) :
    ((s.routeRecord n b).chan d).enables = (s.chan d).enables := by
  unfold State.routeRecord
  dsimp only
  split
  · split <;> simp
  · split <;> simp

@[simp] theorem State.storeByte_enables (s : State) (n : LaneId) (r : FillRecord) (b : Byte) (d : ChanId) :
    ((s.storeByte n r b).chan d).enables = (s.chan d).enables := by
  unfold State.storeByte
  dsimp only
  split <;> simp

@[simp] theorem State.popRx_chan (s : State) (n : LaneId) (rest : List RxEntry) (d : ChanId) :
    (s.popRx n rest).chan d = s.chan d := rfl

/-- A consumed entry's byte, last flag and end mark each leave the enables. -/
@[simp] theorem State.consumeEntry_enables (s : State) (n : LaneId) (e : RxEntry) (d : ChanId) :
    ((s.consumeEntry n e).chan d).enables = (s.chan d).enables := by
  have last (t : State) : ((if e.last then t.setRcv n (t.lane n).rcv.endRecord else t).chan d).enables =
      (t.chan d).enables := by
    split <;> rfl
  unfold State.consumeEntry
  dsimp only
  split
  · rw [State.takeMark_enables, last]
    split <;> simp
  · rw [last]
    split <;> simp

theorem State.consume_enables (fuel : Nat) (s : State) (n : LaneId) (d : ChanId) :
    ((s.consume fuel n).chan d).enables = (s.chan d).enables := by
  induction fuel generalizing s with
  | zero => rfl
  | succ f ih =>
    unfold State.consume
    split
    · rfl
    · split
      · rw [ih, State.consumeEntry_enables, State.popRx_chan]
      · rfl

@[simp] theorem State.drain_enables (s : State) (n : LaneId) (d : ChanId) :
    ((s.drain n).chan d).enables = (s.chan d).enables := State.consume_enables ..

/-! ### Stops, run requests and device control leave the enables -/

/-- A pass whose every step leaves the enables leaves them. -/
theorem State.foldl_enables {ι : Type} {f : State → ι → State} {d : ChanId}
    (h : ∀ s i, ((f s i).chan d).enables = (s.chan d).enables) (l : List ι) (s : State) :
    ((l.foldl f s).chan d).enables = (s.chan d).enables := by
  induction l generalizing s with
  | nil => rfl
  | cons i l ih => rw [List.foldl_cons, ih, h]

theorem State.stopRecords_enables (sel : ChanId → Bool) (s : State) (c d : ChanId) :
    ((s.stopRecords sel c).chan d).enables = (s.chan d).enables := by
  unfold State.stopRecords
  split
  · exact State.setChan_enables (by rfl) d
  · rfl

theorem State.stopLane_enables (sel : ChanId → Bool) (s : State) (n : LaneId) (d : ChanId) :
    ((s.stopLane sel n).chan d).enables = (s.chan d).enables := by
  simp [State.stopLane]

@[simp] theorem State.stopChannels_enables (s : State) (sel : ChanId → Bool) (d : ChanId) :
    ((s.stopChannels sel).chan d).enables = (s.chan d).enables := by
  unfold State.stopChannels
  dsimp only
  rw [State.foldl_enables (fun u n => State.stopLane_enables _ u n d),
    State.foldl_enables (fun u c => State.stopRecords_enables _ u c d)]

@[simp] theorem Channel.writeGuard_enables (ch : Channel) (be : Enables) (data : Word) :
    (ch.writeGuard be data).enables = ch.enables := by
  unfold Channel.writeGuard
  split <;> rfl

/-- A run request leaves the enables, accepted or refused (R46, R47). -/
@[simp] theorem State.runRequest_enables (s : State) (c d : ChanId) :
    ((s.runRequest c).chan d).enables = (s.chan d).enables := by
  unfold State.runRequest
  split
  · exact State.setChan_enables (by rfl) d
  · rw [State.setupRejected_chan]
    exact State.setChan_enables (by rfl) d

/-- A control word's write leaves the enables, whatever it asks (R39 to R41). -/
theorem State.takeChanControl_enables (s : State) (c : ChanId) (be : Enables) (data : Word) (d : ChanId) :
    ((s.takeChanControl c be data).chan d).enables = (s.chan d).enables := by
  have bound : ((s.setChan c ((s.chan c).bind be data)).chan d).enables = (s.chan d).enables :=
    State.setChan_enables (by rfl) d
  unfold State.takeChanControl
  dsimp only
  split
  · split
    · rw [State.setChan_enables (by simp), State.stopChannels_enables]
    · split
      · exact State.setChan_enables (by rfl) d
      · rfl
  · split
    · rw [State.runRequest_enables, bound]
    · rw [State.setChan_enables (by rfl), bound]
    · exact bound

@[simp] theorem State.takeActive_enables (s : State) (active : Bool) (d : ChanId) :
    ((s.takeActive active).chan d).enables = (s.chan d).enables := by
  unfold State.takeActive
  dsimp only
  split <;> simp

@[simp] theorem State.takeIrqPatience_chan (s : State) (w : Word) (d : ChanId) :
    (s.takeIrqPatience w).chan d = s.chan d := rfl

@[simp] theorem State.takeRingSize_chan (s : State) (size : BitVec 3) (d : ChanId) :
    (s.takeRingSize size).chan d = s.chan d := by
  unfold State.takeRingSize State.ringChange
  split
  · rfl
  · split <;> simp

/-- A device control write without RESTART leaves the enables (R26 to R29). -/
theorem State.takeControl_enables (s : State) (pins : Pins) {be : Enables} {data : Word}
    (h : carriesRestart be data = false) (d : ChanId) :
    ((s.takeControl pins be data).chan d).enables = (s.chan d).enables := by
  simp [State.takeControl, h]

/-! ### The two writes and the two resets -/

/-- The enables that a set or clear word names are the low bits of a written byte 0 (R52). -/
theorem namedEnables_bit (be : Enables) (data : Word) {i : Nat} (h : i < 6) :
    (namedEnables be data).getLsbD i = (be.getLsbD 0 && data.getLsbD i) := by
  have hbyte : i / 8 = 0 := by omega
  rw [namedEnables, field_bit, Nat.zero_add, BitVec.getLsbD_and, enableMask_bit be i (by omega), hbyte,
    decide_eq_true h, Bool.true_and, Bool.and_comm]

@[simp] theorem State.resetBlocks_chan (s : State) (d : ChanId) : s.resetBlocks.chan d = Channel.reset := by
  simp [State.chan, State.resetBlocks, State.reset]

/-- A restart leaves every channel at its reset values (R32, R37). -/
theorem State.restartBlocks_chan (s : State) (pins : Pins) (d : ChanId) :
    (s.restartBlocks pins).chan d = Channel.reset := s.resetBlocks_chan d

/-! ### The grant of a setup write -/

/-- The owner of the written word takes a granted setup write, and its memory cycle starts (R6, R7). -/
theorem State.grantAccess_setup {r : HostRecord} {w : SetupWord} (h : SetupWrite r w) (s : State) (pins : Pins) :
    s.grantAccess pins r = (s.takeSetup pins w r.be r.data).memoryCycle r HostCycle.bare := by
  unfold SetupWrite HostRecord.setupTarget at h
  split at h
  · next off hcls hwrite =>
    cases h
    unfold State.grantAccess
    rw [hcls, hwrite]
    rfl
  · cases h

/-- An access that targets the words `p` accepts is the write of one of them. -/
theorem targets_true {r : HostRecord} {p : SetupWord → Bool} (h : targets r p = true) : ∃ w, SetupWrite r w ∧ p w = true := by
  unfold targets at h
  split at h
  · next w hw => exact ⟨w, hw, h⟩
  · cases h

theorem targets_of_setupWrite {r : HostRecord} {w : SetupWord} (h : SetupWrite r w) (p : SetupWord → Bool) :
    targets r p = p w := by
  unfold targets
  rw [h]

/-- A device control write that is not a restart. -/
theorem plainControl_true {r : HostRecord} (h : plainControl r = true) :
    SetupWrite r .deviceControl ∧ carriesRestart r.be r.data = false := by
  simpa [plainControl] using h

@[simp] theorem State.countPatience_chan (s : State) (d : ChanId) : s.countPatience.chan d = s.chan d := by
  rw [State.countPatience_eq]; rfl

/-- A grant command whose access is a setup write that leaves a channel's enables leaves them. -/
theorem grantWhen_enables {p : State → HostRecord → Bool} {pins : Pins} {s : State} {d : ChanId}
    (h : ∀ r, p s r = true → ∃ w, SetupWrite r w ∧
      ∀ u : State, ((u.takeSetup pins w r.be r.data).chan d).enables = (u.chan d).enables) :
    ((s.grantWhen p pins).chan d).enables = (s.chan d).enables := by
  rcases grantWhen_cases s p pins with ⟨r, _, _, hp, heq⟩ | heq
  · obtain ⟨w, hw, hkeep⟩ := h r hp
    rw [heq, State.grantAccess_setup hw]
    calc ((s.countPatience.takeSetup pins w r.be r.data).chan d).enables
        = (s.countPatience.chan d).enables := hkeep _
      _ = (s.chan d).enables := by rw [State.countPatience_chan]
  · rw [heq]

/-- A grant command over channel control words alone leaves every channel's enables. -/
theorem grantWhen_chanControl_enables {p : State → SetupWord → HostRecord → Bool} (pins : Pins) (s : State) (d : ChanId)
    (h : ∀ w r, p s w r = true → ∃ c, w = .chanControl c) :
    ((s.grantWhen (fun s r => targets r fun w => p s w r) pins).chan d).enables = (s.chan d).enables := by
  apply grantWhen_enables
  intro r hr
  obtain ⟨w, hw, hp⟩ := targets_true hr
  obtain ⟨c, rfl⟩ := h w r hp
  exact ⟨_, hw, fun u => u.takeChanControl_enables c r.be r.data d⟩

/-! ### What each command does to the enables -/

/-- RUN_REQUEST leaves every channel's enables (R46, R52). -/
theorem exec_runRequest_enables {s t : State} (h : exec .runRequest s = .next t) (d : ChanId) :
    (t.chan d).enables = (s.chan d).enables := by
  cases h
  apply grantWhen_chanControl_enables
  intro w r hp
  split at hp
  · exact ⟨_, rfl⟩
  · cases hp

/-- CHANNEL_STOP leaves every channel's enables (R48, R52). -/
theorem exec_channelStop_enables {s t : State} (h : exec .channelStop s = .next t) (d : ChanId) :
    (t.chan d).enables = (s.chan d).enables := by
  cases h
  apply grantWhen_chanControl_enables
  intro w r hp
  split at hp
  · exact ⟨_, rfl⟩
  · cases hp

/-- ACTIVE_CLEAR, with the stops it makes, leaves every channel's enables (R27, R48, R52). -/
theorem exec_activeClear_enables {s t : State} (h : exec .activeClear s = .next t) (d : ChanId) :
    (t.chan d).enables = (s.chan d).enables := by
  cases h
  apply grantWhen_enables
  intro r hp
  simp only [Bool.and_eq_true] at hp
  obtain ⟨⟨hc, _⟩, _⟩ := hp
  obtain ⟨hw, hplain⟩ := plainControl_true hc
  exact ⟨_, hw, fun u => u.takeControl_enables _ hplain d⟩

/-- ENABLE_SET joins the named enables to the channel's (R52). -/
theorem exec_enableSet {s : State} {r : HostRecord} {c : ChanId} (hg : HostGranted s r) (hw : SetupWrite r (.enableSet c)) :
    exec .enableSet s = .next ((s.setChan c { s.chan c with
      enables := (s.chan c).enables ||| namedEnables r.be r.data }).withCycle s.granted r HostCycle.bare) := by
  change Host.Outcome.next (s.grantWhen _ _) = _
  rw [grantWhen_of_granted hg (by rw [targets_of_setupWrite hw]), State.grantAccess_setup hw, State.countPatience_eq]
  rfl

/-- ENABLE_CLEAR takes the named enables from the channel's (R52). -/
theorem exec_enableClear {s : State} {r : HostRecord} {c : ChanId} (hg : HostGranted s r)
    (hw : SetupWrite r (.enableClear c)) :
    exec .enableClear s = .next ((s.setChan c { s.chan c with
      enables := (s.chan c).enables &&& ~~~(namedEnables r.be r.data) }).withCycle s.granted r HostCycle.bare) := by
  change Host.Outcome.next (s.grantWhen _ _) = _
  rw [grantWhen_of_granted hg (by rw [targets_of_setupWrite hw]), State.grantAccess_setup hw, State.countPatience_eq]
  rfl

/-- HARDWARE_RESET leaves every channel at its reset values (R16, R37). -/
theorem exec_hardwareReset_chan {s t : State} {sbase : BitVec 8} {bypass : Bool}
    (h : exec (.hardwareReset sbase bypass) s = .next t) (d : ChanId) : t.chan d = Channel.reset := by
  cases h
  exact s.resetBlocks_chan d

/-- A granted RESTART leaves every channel at its reset values (R32, R37). -/
theorem exec_restart_chan {s t : State} {r : HostRecord} {pins : Pins} (hg : HostGranted s r)
    (hw : SetupWrite r .deviceControl) (hrestart : carriesRestart r.be r.data = true)
    (h : exec (.restart pins) s = .next t) (d : ChanId) : t.chan d = Channel.reset := by
  cases h
  rw [grantWhen_of_granted hg (by simp [hw, hrestart]), State.grantAccess_setup hw]
  change ((s.countPatience.takeControl pins r.be r.data).chan d) = _
  rw [State.takeControl, if_pos hrestart, State.restartBlocks_chan]

/-! ### The statement -/

/-- Settles O29: the two writes by the bits of the enables they name, the read back by the layout of the two words, the
commands that keep the enables by one lemma for each operation they are made of, and the resets by the channels' reset
record. -/
theorem enableWritesSetAndClear : Obligations.EnableWritesSetAndClear := by
  intro s r c pins
  have readBack : place 0 (s.chan c).enables = (s.chan c).enables.setWidth 32 := BitVec.shiftLeft_zero _
  refine ⟨fun hg hw => ⟨_, ?_, exec_enableSet hg hw⟩, fun hg hw => ⟨_, ?_, exec_enableClear hg hw⟩, readBack, readBack,
    ?_, ?_, ?_⟩
  · intro i hi
    rw [BitVec.getLsbD_or, namedEnables_bit _ _ hi]
  · intro i hi
    rw [BitVec.getLsbD_and, BitVec.getLsbD_not, namedEnables_bit _ _ hi, decide_eq_true hi, Bool.true_and]
  · rintro i t (rfl | rfl | rfl) h
    · exact exec_runRequest_enables h c
    · exact exec_channelStop_enables h c
    · exact exec_activeClear_enables h c
  · rintro i t ⟨a, b, rfl⟩ h
    rw [exec_hardwareReset_chan h c]
    rfl
  · intro t hg hw hbe hdata h
    have hrestart : carriesRestart r.be r.data = true := by rw [carriesRestart, hbe, hdata]; rfl
    rw [exec_restart_chan hg hw hrestart h c]
    rfl

end Sys2Proof.Machine
end

section
/-! SUPPORT. Writes that the guard does not let stand (R67, R71 to R73): what a counted and reported event leaves, which header
writes are guarded or too long for the slot, and what the grant of such a write does. -/

namespace Sys2Proof.Machine

/-! ### Counted and reported events -/

/-- An event of channel c that is counted and reported advances FAULTS and changes the notice unit, behind the gate that stood
before it (R53, R58). -/
theorem State.countFault_chanNotice (s : State) (c : ChanId) (kind : NoticeKind) (slot seq : Byte) (detail : BitVec 16) :
    (s.countFault c).chanNotice c kind slot seq detail =
      { s.setChan c { s.chan c with faults := (s.chan c).faults + 1 } with
        nu := s.reported ((s.chan c).enabled kind) kind (chanSource c) slot seq detail } := by
  have gate : ((s.countFault c).chan c).enabled kind = (s.chan c).enabled kind := by
    unfold Channel.enabled
    rw [State.countFault_enables]
  rw [State.chanNotice_eq, gate, State.reported_congr (s := s.countFault c) (t := s) rfl rfl]
  rfl

/-- A refused commit counts a fault and reports COMMIT_REFUSED with SEQ 0; the slot and the queue stay (R67, R77, R81). -/
theorem State.commitRefused_eq (s : State) (c : ChanId) (k : Nat) (detail : BitVec 16) :
    s.commitRefused c k detail =
      { s.setChan c { s.chan c with faults := (s.chan c).faults + 1 } with
        nu := s.reported ((s.chan c).enables.getLsbD 5) .commitRefused (BitVec.ofNat 8 c.val) (BitVec.ofNat 8 k) 0
          detail } :=
  s.countFault_chanNotice c .commitRefused (BitVec.ofNat 8 k) 0 detail

/-- The guard shows a slot's sequence number in the states that R80 names. -/
theorem SlotRec.guardSeq_eq (x : SlotRec) : x.guardSeq = x.shownSeq := by
  unfold SlotRec.guardSeq SlotRec.shownSeq
  cases x.state <;> rfl

/-- The DETAIL of GUARD_DISCARD as a number: the word offset fills bits 9:0 and leaves the cause alone in bits 15:14
(R80). -/
theorem guardDetail_eq {w : Nat} (hw : w < 1024) (cause : BitVec 2) :
    guardDetail w cause = BitVec.ofNat 16 (cause.toNat * 2 ^ 14 + w) := by
  have hcause : cause.toNat < 4 := cause.isLt
  have hlow : w < 2 ^ 14 := by omega
  apply BitVec.eq_of_toNat_eq
  calc (guardDetail w cause).toNat
      = w ||| cause.toNat <<< 14 := by
        simp only [guardDetail, BitVec.toNat_or, BitVec.toNat_shiftLeft, BitVec.toNat_setWidth, BitVec.toNat_ofNat,
          Nat.shiftLeft_eq]
        congr 1 <;> omega
    _ = cause.toNat * 2 ^ 14 + w := by
        rw [Nat.or_comm, ← Nat.shiftLeft_add_eq_or_of_lt hlow, Nat.shiftLeft_eq]
    _ = (BitVec.ofNat 16 (cause.toNat * 2 ^ 14 + w)).toNat := by
        rw [BitVec.toNat_ofNat]
        omega

/-- A discarded guarded write counts a fault and reports GUARD_DISCARD with its word, its cause and the slot's shown number;
the slot and the queue stay (R72, R73, R80). -/
theorem State.guardDiscard_eq (s : State) (c : ChanId) (k : Nat) {w : Nat} (hw : w < 1024) (cause : BitVec 2) :
    s.guardDiscard c k w cause =
      { s.setChan c { s.chan c with faults := (s.chan c).faults + 1 } with
        nu := s.reported ((s.chan c).enables.getLsbD 4) .guardDiscard (BitVec.ofNat 8 c.val) (BitVec.ofNat 8 k)
          (s.slot c k).shownSeq (BitVec.ofNat 16 (cause.toNat * 2 ^ 14 + w)) } := by
  rw [State.guardDiscard, State.countFault_chanNotice, SlotRec.guardSeq_eq, guardDetail_eq hw]
  rfl

/-- What a host grant leaves of the arbiter leaves every slot. -/
@[simp] theorem State.countPatience_slot (s : State) (c : ChanId) (k : Nat) : s.countPatience.slot c k = s.slot c k := by
  rw [State.slot, State.slot, State.countPatience_chan]

/-! ### Commits longer than the slot (R67) -/

/-- The meaning of a full header write is read from its LENGTH (R64, R65). -/
theorem State.headerMeaningOf_headerWrite {r : HostRecord} {c : ChanId} {k len : Nat} (h : HeaderWrite r c k len)
    (s : State) : s.headerMeaningOf r c k =
      headerMeaning (s.chan c).dir (s.slot c k).state (some len) (s.chan c).capacity := by
  obtain ⟨_, _, hbe0, hbe1, rfl⟩ := h
  unfold State.headerMeaningOf headerLength
  rw [hbe0, hbe1]
  rfl

/-- A LENGTH above the capacity is refused from FREE and from FAILED alike (R65, R67). -/
theorem headerMeaning_tooLong {state : SlotState} (hst : state = .free ∨ state = .failed) {len capacity : Nat}
    (hlen : capacity < len) : headerMeaning .outbound state (some len) capacity = .refusedLength := by
  have hpos : len ≠ 0 := by omega
  have hover : ¬len ≤ capacity := by omega
  rcases hst with rfl | rfl <;> simp only [headerMeaning, if_neg hpos, if_neg hover]

/-- A granted header write takes its effect by its meaning (R65). -/
theorem State.grantAccess_header {r : HostRecord} {c : ChanId} {k : Nat} (hcls : r.cls = .slotHeader c k)
    (hwrite : r.write = true) (s : State) (pins : Pins) :
    s.grantAccess pins r = s.headerWrite r c k (s.headerMeaningOf r c k) := by
  unfold State.grantAccess
  rw [hcls, hwrite]

/-- A full header write with a LENGTH of 1 or more to an outbound slot is the commit command of the slot's state. -/
theorem State.commitTo_headerWrite {s : State} {r : HostRecord} {c : ChanId} {k len : Nat} {state : SlotState}
    (h : HeaderWrite r c k len) (hdir : (s.chan c).dir = .outbound) (hst : (s.slot c k).state = state) (hlen : 1 ≤ len) :
    s.commitTo r state = true := by
  obtain ⟨hcls, hwrite, hbe0, hbe1, rfl⟩ := h
  have hlen' : 1 ≤ (field r.data 0 16).toNat := hlen
  simp only [State.commitTo, headerLength, hcls, hwrite, hdir, hst, hbe0, hbe1, beq_self_eq_true, Bool.and_self, if_true,
    decide_eq_true hlen']

/-- The grant of a commit longer than the slot refuses it with LENGTH and performs the write, under every policy (R67). -/
theorem State.grantAccess_tooLong {s : State} {r : HostRecord} {c : ChanId} {k len : Nat} (h : HeaderWrite r c k len)
    (hdir : (s.chan c).dir = .outbound) (hlen : (s.chan c).capacity < len)
    (hst : (s.slot c k).state = .free ∨ (s.slot c k).state = .failed) (pins : Pins) :
    s.grantAccess pins r = (s.commitRefused c k 1).performWrite r ((s.chan c).guard == 1) := by
  have ⟨hcls, hwrite, _⟩ := h
  rw [State.grantAccess_header hcls hwrite, State.headerMeaningOf_headerWrite h, hdir, headerMeaning_tooLong hst hlen]
  rfl

/-- A commit command whose waiting write is longer than the slot leaves the refused commit's state (R67). -/
theorem State.grantWhen_tooLong {s : State} {r : HostRecord} {c : ChanId} {k len : Nat} {state : SlotState}
    (hg : HostGranted s r) (h : HeaderWrite r c k len) (hdir : (s.chan c).dir = .outbound)
    (hlen : (s.chan c).capacity < len) (hst : (s.slot c k).state = state) (hcommit : state = .free ∨ state = .failed)
    (pins : Pins) :
    s.grantWhen (fun s r => s.commitTo r state) pins =
      State.withCycle { s.setChan c { s.chan c with faults := (s.chan c).faults + 1 } with
        guard := ⟨none, none⟩
        nu := s.reported ((s.chan c).enables.getLsbD 5) .commitRefused (BitVec.ofNat 8 c.val) (BitVec.ofNat 8 k) 0 1 }
        s.granted r ⟨false, (s.chan c).guard == 1, none, none⟩ := by
  have hp : s.commitTo r state = true := State.commitTo_headerWrite h hdir hst (by omega)
  rw [← hst] at hcommit
  rw [grantWhen_of_granted hg hp, State.grantAccess_tooLong h (by rwa [State.countPatience_chan])
    (by rwa [State.countPatience_chan]) (by rwa [State.countPatience_slot]), State.commitRefused_eq, State.countPatience_eq]
  rfl

/-- A host cycle that was not abandoned answers, at its completion, with MERR or the error that was due (R12). -/
theorem exec_hostAccessCompletion_herr {t u : State} {g : HostGrant} {r : HostRecord} {cyc : HostCycle} {data : CycleEnd}
    {merr : Bool} (hlive : cyc.abandoned = false)
    (h : exec (.hostAccessCompletion data merr) (t.withCycle g r cyc) = .next u) : u.herr = (merr || cyc.herr) := by
  cases h
  change State.herr (if cyc.abandoned then _ else _) = _
  rw [hlive]
  rfl

/-- Settles O32: COMMIT and RECOMMIT make the same grant, whose meaning R65 gives as the refused LENGTH, and the completion
answers with the error that the refused cycle carries. -/
theorem tooLongACommitIsRefused : Obligations.TooLongACommitIsRefused := by
  intro s r c k len hg h hdir hlen
  refine ⟨fun hst => ?_, fun hst => ?_, fun u data merr hguard _ hu => ?_⟩
  · exact congrArg Host.Outcome.next (State.grantWhen_tooLong hg h hdir hlen hst (.inl rfl) .low)
  · exact congrArg Host.Outcome.next (State.grantWhen_tooLong hg h hdir hlen hst (.inr rfl) .low)
  · rw [exec_hostAccessCompletion_herr rfl hu, hguard]
    exact Bool.or_true merr

/-! ### Guarded writes (R71 to R73) -/

/-- LENGTH 0 is read only from a header write with both its bytes enabled and 0 in them (R64). -/
theorem headerLength_eq_zero {be : Enables} {data : Word} (h : headerLength be data = some 0) :
    be.getLsbD 0 = true ∧ be.getLsbD 1 = true ∧ data.extractLsb' 0 16 = 0 := by
  unfold headerLength at h
  split at h
  · next hbe =>
    obtain ⟨hbe0, hbe1⟩ := Bool.and_eq_true_iff.mp hbe
    exact ⟨hbe0, hbe1, BitVec.eq_of_toNat_eq (Option.some.inj h)⟩
  · cases h

/-- A header write to a slot that is COMMITTED, SENDING or FILLING is guarded unless it is a withdraw (R65). -/
theorem headerMeaning_guarded {dir : Direction} {state : SlotState} {len : Option Nat}
    (hst : state = .committed ∨ state = .sending ∨ state = .filling)
    (hkeep : ¬(dir = .outbound ∧ state = .committed ∧ len = some 0)) (capacity : Nat) :
    headerMeaning dir state len capacity = .guarded := by
  rcases hst with rfl | rfl | rfl
  · cases dir with
    | inbound => rfl
    | outbound =>
      match len with
      | none => rfl
      | some 0 => exact absurd ⟨rfl, rfl, rfl⟩ hkeep
      | some (_ + 1) => rfl
  · cases dir <;> rfl
  · cases dir <;> rfl

/-- The grant of a guarded write, payload or header, takes the outcome of its channel's policy (R65, R71). -/
theorem State.grantAccess_guarded {s : State} {r : HostRecord} {c : ChanId} {k w : Nat} (h : GuardedWrite s r c k w)
    (pins : Pins) : s.grantAccess pins r = s.guardedWrite r c k w := by
  obtain ⟨hwrite, hst, hcls | ⟨hcls, rfl, hkeep⟩⟩ := h
  · have hpay : payloadGuarded (s.slot c k).state = true := by
      rcases hst with hst | hst | hst <;> rw [hst] <;> rfl
    unfold State.grantAccess
    rw [hcls, hwrite]
    exact if_pos hpay
  · have hmeaning : s.headerMeaningOf r c k = .guarded :=
      headerMeaning_guarded hst (fun ⟨hdir, hcom, hlen⟩ => hkeep ⟨hdir, hcom, headerLength_eq_zero hlen⟩) _
    rw [State.grantAccess_header hcls hwrite, hmeaning]
    rfl

/-- HOST_GRANT of a guarded write takes the outcome of its channel's policy, on what the grant leaves of the arbiter. -/
theorem exec_hostGrant_guarded {s : State} {r : HostRecord} {c : ChanId} {k w : Nat} (hg : HostGranted s r)
    (h : GuardedWrite s r c k w) (pins : Pins) :
    exec (.hostGrant pins) s = .next (s.countPatience.guardedWrite r c k w) := by
  have h' : GuardedWrite s.countPatience r c k w := by
    rwa [GuardedWrite, State.countPatience_slot, State.countPatience_chan]
  change Host.Outcome.next (s.grantWhen _ _) = _
  rw [grantWhen_of_granted hg rfl, State.grantAccess_guarded h']

/-- Under DISCARD a guarded write is discarded, reported with cause POLICY, and ends without HERR (R72). -/
theorem State.guardedWrite_discard {s : State} {c : ChanId} (hguard : (s.chan c).guard = 0) (r : HostRecord) (k w : Nat) :
    s.guardedWrite r c k w = (s.guardDiscard c k w 1).clearGuard.endAccess r false none := by
  unfold State.guardedWrite
  rw [hguard]
  rfl

/-- Under REJECT a guarded write is discarded, reported with cause REJECT, and ends with HERR (R73). -/
theorem State.guardedWrite_reject {s : State} {c : ChanId} (hguard : (s.chan c).guard = 1) (r : HostRecord) (k w : Nat) :
    s.guardedWrite r c k w = (s.guardDiscard c k w 2).clearGuard.endAccess r true none := by
  unfold State.guardedWrite
  rw [hguard]
  rfl

/-- Settles O36: the grant takes the outcome of DISCARD, and the discard's effect is the counted and reported event. -/
theorem guardedWriteIsDiscarded : Obligations.GuardedWriteIsDiscarded := by
  intro s r pins c k w hg h hguard hw
  have hguard' : (s.countPatience.chan c).guard = 0 := by rw [State.countPatience_chan, hguard]
  rw [exec_hostGrant_guarded hg h, State.guardedWrite_discard hguard', State.guardDiscard_eq _ _ _ hw, State.countPatience_eq]
  rfl

/-- Settles O37: the grant takes the outcome of REJECT, and the discard's effect is the counted and reported event. -/
theorem guardedWriteIsRejected : Obligations.GuardedWriteIsRejected := by
  intro s r pins c k w hg h hguard hw
  have hguard' : (s.countPatience.chan c).guard = 1 := by rw [State.countPatience_chan, hguard]
  rw [exec_hostGrant_guarded hg h, State.guardedWrite_reject hguard', State.guardDiscard_eq _ _ _ hw, State.countPatience_eq]
  rfl

end Sys2Proof.Machine
end

section
/-! SUPPORT. What an event of the lanes, slots and notices leaves alone: the queue, the straps, the clock and the device block, the
setup of every channel, the mode of every lane, the guard, and which requester has the memory port. One lemma for each shared
operation; the laws of the part and the frame of every command rest on them. -/

namespace Sys2Proof.Machine

/-! ### The relation -/

/-- A channel's record without what its slots and records change: the words the host wrote, with the channel's state. -/
def Channel.setup (ch : Channel) : Channel := { ch with seqCtr := 0, fillPtr := 0, done := 0, faults := 0, slots := [] }

/-- The mover has a memory cycle in progress (R105, R124). -/
def Mover.inCycle : Mover → Bool
  | .busy => true
  | .orphaned => true
  | _ => false

/-- The notice writer has a memory cycle in progress (R163). -/
def WriterState.inCycle : WriterState → Bool
  | .word0Writing => true
  | .word1Writing => true
  | _ => false

/-- t has the queue, RESETn, the straps and the clock of s. -/
structure SameOutside (s t : State) : Prop where
  pending : t.pending = s.pending
  resetn : t.resetn = s.resetn
  sbase : t.sbase = s.sbase
  bypass : t.bypass = s.bypass
  now : t.now = s.now

/-- t has what lies outside the blocks of s, and the notice unit's law wherever s has it. -/
structure RingKept (s t : State) : Prop extends SameOutside s t where
  ring : RingLaw s → RingLaw t

/-- t comes from s by an event of the lanes, slots and notices: a held write may be woken, notices may be generated, and no
memory cycle starts or ends. -/
structure LaneEvent (s t : State) : Prop extends RingKept s t where
  guard : t.guard = s.guard
  port : t.arb.port = s.arb.port
  dev : t.dev = s.dev
  writing : t.nu.writer.inCycle = s.nu.writer.inCycle
  asked : t.host.port.asked = s.host.port.asked
  cycle : t.host.port.inCycle = s.host.port.inCycle
  held : t.host.port.isHeld = true → s.host.port.isHeld = true
  setup : ∀ c, (t.chan c).setup = (s.chan c).setup
  mode : ∀ n, (t.lane n).mode = (s.lane n).mode
  sndCycle : ∀ n, (t.lane n).snd.mover.inCycle = (s.lane n).snd.mover.inCycle
  rcvCycle : ∀ n, (t.lane n).rcv.mover.inCycle = (s.lane n).rcv.mover.inCycle

theorem SameOutside.refl (s : State) : SameOutside s s := ⟨rfl, rfl, rfl, rfl, rfl⟩

theorem SameOutside.trans {s t u : State} (h : SameOutside s t) (h2 : SameOutside t u) : SameOutside s u :=
  ⟨h2.pending.trans h.pending, h2.resetn.trans h.resetn, h2.sbase.trans h.sbase, h2.bypass.trans h.bypass,
    h2.now.trans h.now⟩

theorem RingKept.refl (s : State) : RingKept s s := ⟨.refl s, id⟩

theorem RingKept.trans {s t u : State} (h : RingKept s t) (h2 : RingKept t u) : RingKept s u :=
  ⟨h.toSameOutside.trans h2.toSameOutside, h2.ring ∘ h.ring⟩

theorem LaneEvent.refl (s : State) : LaneEvent s s where
  toRingKept := .refl s
  guard := rfl
  port := rfl
  dev := rfl
  writing := rfl
  asked := rfl
  cycle := rfl
  held := id
  setup _ := rfl
  mode _ := rfl
  sndCycle _ := rfl
  rcvCycle _ := rfl

theorem LaneEvent.trans {s t u : State} (h : LaneEvent s t) (h2 : LaneEvent t u) : LaneEvent s u where
  toRingKept := h.toRingKept.trans h2.toRingKept
  guard := h2.guard.trans h.guard
  port := h2.port.trans h.port
  dev := h2.dev.trans h.dev
  writing := h2.writing.trans h.writing
  asked := h2.asked.trans h.asked
  cycle := h2.cycle.trans h.cycle
  held := h.held ∘ h2.held
  setup c := (h2.setup c).trans (h.setup c)
  mode n := (h2.mode n).trans (h.mode n)
  sndCycle n := (h2.sndCycle n).trans (h.sndCycle n)
  rcvCycle n := (h2.rcvCycle n).trans (h.rcvCycle n)

/-! ### The law of the notice unit depends on little -/

/-- The law speaks of the notice unit and of RING_SIZE alone. -/
theorem RingLaw.congr {s t : State} (h : RingLaw s) (hnu : t.nu = s.nu) (hsize : t.dev.ringSize = s.dev.ringSize) :
    RingLaw t := by
  unfold RingLaw
  rw [hnu, hsize]
  exact h

/-- A started writer has a notice to write and room for it (R167). -/
theorem State.startWriter_ring {s : State} (h : RingLaw s) : RingLaw s.startWriter := by
  obtain ⟨hlen, hsize, hocc, hwriter⟩ := h
  rw [State.startWriter_eq]
  refine ⟨hlen, hsize, hocc, fun hw => ?_⟩
  dsimp only at hw ⊢
  split at hw
  · next hstart => exact ⟨hstart.2.1, hstart.2.2⟩
  · exact hwriter hw

/-- A generated notice joins the list only where there is place for it (R164). -/
theorem State.generate_ring {s : State} (h : RingLaw s) (kind : NoticeKind) (source slot seq : Byte) (detail : BitVec 16) :
    RingLaw (s.generate kind source slot seq detail) := by
  unfold State.generate
  split
  · exact h
  · obtain ⟨hlen, hsize, hocc, hwriter⟩ := h
    split
    · next hroom =>
      apply State.startWriter_ring
      refine ⟨?_, hsize, hocc, fun hw => ⟨by simp, (hwriter hw).2⟩⟩
      simp only [State.withNu_nu, List.length_append, List.length_singleton]
      omega
    · exact ⟨hlen, hsize, hocc, hwriter⟩

/-! ### Notices and wakes -/

theorem State.startWriter_inCycle (s : State) : s.startWriter.nu.writer.inCycle = s.nu.writer.inCycle := by
  rw [State.startWriter_eq]
  dsimp only
  split
  · next h => rw [h.1]; rfl
  · rfl

theorem State.generate_inCycle (s : State) (kind : NoticeKind) (source slot seq : Byte) (detail : BitVec 16) :
    (s.generate kind source slot seq detail).nu.writer.inCycle = s.nu.writer.inCycle := by
  unfold State.generate
  split
  · rfl
  · split
    · exact State.startWriter_inCycle _
    · rfl

theorem LaneEvent.generate (s : State) (kind : NoticeKind) (source slot seq : Byte) (detail : BitVec 16) :
    LaneEvent s (s.generate kind source slot seq detail) := by
  have hring := fun h : RingLaw s => State.generate_ring h kind source slot seq detail
  have hcyc := State.generate_inCycle s kind source slot seq detail
  rw [State.generate_eq] at hring hcyc ⊢
  exact { LaneEvent.refl s with ring := hring, writing := hcyc }

theorem LaneEvent.chanNotice (s : State) (c : ChanId) (kind : NoticeKind) (slot seq : Byte) (detail : BitVec 16) :
    LaneEvent s (s.chanNotice c kind slot seq detail) := by
  unfold State.chanNotice
  split
  · exact .generate ..
  · exact .refl s

/-- A woken write still waits for the memory port (R75). -/
theorem LaneEvent.wake (s : State) (p : HeldWrite → Bool) : LaneEvent s (s.wake p) := by
  rcases State.wake_cases s p with ⟨r, h, hport, _, _, heq⟩ | heq
  · rw [heq]
    exact { LaneEvent.refl s with
      asked := by rw [hport]; rfl
      cycle := by rw [hport]; rfl
      held := nofun }
  · rw [heq]
    exact .refl s

theorem LaneEvent.wakeSlot (s : State) (c : ChanId) (k : Nat) : LaneEvent s (s.wakeSlot c k) := .wake ..

theorem LaneEvent.wakeQueue (s : State) (n : LaneId) : LaneEvent s (s.wakeQueue n) := .wake ..

/-! ### Channels and slots -/

/-- A channel record with the setup it had before. -/
theorem LaneEvent.setChan {s : State} {c : ChanId} {ch : Channel} (h : ch.setup = (s.chan c).setup) :
    LaneEvent s (s.setChan c ch) :=
  { LaneEvent.refl s with
    setup := by
      intro d
      rw [State.chan_setChan]
      split
      · next hcd => rw [h, hcd]
      · rfl }

theorem LaneEvent.setSlot (s : State) (c : ChanId) (k : Nat) (r : SlotRec) : LaneEvent s (s.setSlot c k r) := .setChan rfl

theorem LaneEvent.countDone (s : State) (c : ChanId) : LaneEvent s (s.countDone c) := .setChan rfl

theorem LaneEvent.countFault (s : State) (c : ChanId) : LaneEvent s (s.countFault c) := .setChan rfl

theorem LaneEvent.freeSlot (s : State) (c : ChanId) (k : Nat) : LaneEvent s (s.freeSlot c k) :=
  (LaneEvent.setSlot s c k SlotRec.free).trans (.wakeSlot ..)

/-! ### Lanes -/

/-- A lane record with the mode and the memory cycles it had before. -/
theorem LaneEvent.setLane {s : State} {n : LaneId} {l : Lane} (hmode : l.mode = (s.lane n).mode)
    (hsnd : l.snd.mover.inCycle = (s.lane n).snd.mover.inCycle) (hrcv : l.rcv.mover.inCycle = (s.lane n).rcv.mover.inCycle) :
    LaneEvent s (s.setLane n l) := by
  have key {α : Type} (f : Lane → α) (h : f l = f (s.lane n)) (m : LaneId) : f ((s.setLane n l).lane m) = f (s.lane m) := by
    rw [State.lane_setLane]
    split
    · next hnm => rw [h, hnm]
    · rfl
  exact { LaneEvent.refl s with
    mode := key Lane.mode hmode
    sndCycle := key (fun l => l.snd.mover.inCycle) hsnd
    rcvCycle := key (fun l => l.rcv.mover.inCycle) hrcv }

theorem LaneEvent.setSnd {s : State} {n : LaneId} {x : SendSide} (h : x.mover.inCycle = (s.lane n).snd.mover.inCycle) :
    LaneEvent s (s.setSnd n x) := .setLane rfl h rfl

theorem LaneEvent.setRcv {s : State} {n : LaneId} {x : RecvSide} (h : x.mover.inCycle = (s.lane n).rcv.mover.inCycle) :
    LaneEvent s (s.setRcv n x) := .setLane rfl rfl h

theorem LaneEvent.setTurn (s : State) (n : LaneId) (x : TurnState) : LaneEvent s (s.setTurn n x) := .setLane rfl rfl rfl

@[simp] theorem Mover.endRecord_inCycle (m : Mover) : m.endRecord.inCycle = m.inCycle := by cases m <;> rfl

/-- A mover that presents a request from NONE has no memory cycle before or after. -/
theorem Mover.waiting_inCycle {m : Mover} (h : m = .none) : Mover.waiting.inCycle = m.inCycle := by rw [h]; rfl

/-! ### The receive side -/

theorem LaneEvent.dropRecord (s : State) (n : LaneId) (r : FillRecord) (detail : BitVec 16) (after : RecvState) :
    LaneEvent s (s.dropRecord n r detail after) :=
  (LaneEvent.setRcv (by simp)).trans <| (LaneEvent.freeSlot ..).trans <| (LaneEvent.countFault ..).trans <| .chanNotice ..

theorem LaneEvent.dropWaiting (s : State) (n : LaneId) (c : ChanId) (detail : BitVec 16) (after : RecvState) :
    LaneEvent s (s.dropWaiting n c detail after) :=
  (LaneEvent.setRcv (by simp)).trans <| (LaneEvent.countFault ..).trans <| .chanNotice ..

theorem LaneEvent.takeMark (s : State) (n : LaneId) (m : EndMark) : LaneEvent s (s.takeMark n m) := by
  unfold State.takeMark
  split
  · exact .dropRecord ..
  · split
    · exact .refl s
    · exact .dropWaiting ..
  · exact .setRcv rfl
  · exact .refl s
  · exact .refl s

theorem LaneEvent.pick (s : State) (n : LaneId) (c : ChanId) (k : Nat) : LaneEvent s (s.pick n c k) :=
  (LaneEvent.setSlot s c k _).trans <| (LaneEvent.setChan (by rfl)).trans <| .setRcv (by rfl)

theorem LaneEvent.routeRecord (s : State) (n : LaneId) (b : Byte) : LaneEvent s (s.routeRecord n b) := by
  unfold State.routeRecord
  dsimp only
  split
  · split
    · exact .pick ..
    · exact .setRcv rfl
  · split
    · exact (LaneEvent.setRcv (by rfl)).trans (.generate ..)
    · exact .setRcv rfl

/-- A byte is stored only with the mover NONE, so the fourth one's request starts from no memory cycle (R132). -/
theorem LaneEvent.storeByte {s : State} {n : LaneId} (h : (s.lane n).rcv.mover = .none) (r : FillRecord) (b : Byte) :
    LaneEvent s (s.storeByte n r b) := by
  unfold State.storeByte
  dsimp only
  split
  · refine (LaneEvent.setSlot s r.chan r.slot _).trans (.setRcv ?_)
    dsimp only
    split
    · exact Mover.waiting_inCycle h
    · rfl
  · exact .setRcv rfl

theorem RecvSide.closeStep_inCycle (x : RecvSide) : x.closeStep.mover.inCycle = x.mover.inCycle := by
  unfold RecvSide.closeStep
  split
  · split
    · next h => exact Mover.waiting_inCycle h
    · rfl
  · rfl

theorem RecvSide.endRecord_inCycle (x : RecvSide) : x.endRecord.mover.inCycle = x.mover.inCycle := by
  unfold RecvSide.endRecord
  split
  · exact RecvSide.closeStep_inCycle _
  all_goals rfl

theorem LaneEvent.popRx (s : State) (n : LaneId) (rest : List RxEntry) : LaneEvent s (s.popRx n rest) := .setRcv rfl

/-- A side that consumes in R_FILLING has its mover NONE (R125). -/
theorem RecvSide.mover_of_consumes {x : RecvSide} (h : x.consumes = true) {r : FillRecord} (hr : x.state = .filling r) :
    x.mover = .none := by
  unfold RecvSide.consumes at h
  rw [hr] at h
  exact eq_of_beq h

theorem LaneEvent.consumeEntry {s : State} {n : LaneId} (h : (s.lane n).rcv.consumes = true) (e : RxEntry) :
    LaneEvent s (s.consumeEntry n e) := by
  have byte : LaneEvent s (match (s.lane n).rcv.state with
      | .idle => s.routeRecord n e.byte
      | .filling r => s.storeByte n r e.byte
      | _ => s) := by
    split
    · exact .routeRecord ..
    · next r hr => exact .storeByte (RecvSide.mover_of_consumes h hr) ..
    · exact .refl s
  have last (t : State) : LaneEvent t (if e.last then t.setRcv n (t.lane n).rcv.endRecord else t) := by
    split
    · exact .setRcv (RecvSide.endRecord_inCycle _)
    · exact .refl t
  unfold State.consumeEntry
  dsimp only
  split
  · exact (byte.trans (last _)).trans (.takeMark ..)
  · exact byte.trans (last _)

theorem LaneEvent.consume (fuel : Nat) (s : State) (n : LaneId) : LaneEvent s (s.consume fuel n) := by
  induction fuel generalizing s with
  | zero => exact .refl s
  | succ f ih =>
    unfold State.consume
    split
    · exact .refl s
    · next e rest _ =>
      split
      · next hc =>
        have hpop : ((s.popRx n rest).lane n).rcv.consumes = true := by simpa [State.popRx, RecvSide.consumes] using hc
        exact (LaneEvent.popRx s n rest).trans ((LaneEvent.consumeEntry hpop e).trans (ih _))
      · exact .refl s

theorem LaneEvent.drain (s : State) (n : LaneId) : LaneEvent s (s.drain n) := .consume ..

theorem LaneEvent.resumeRecv (s : State) (n : LaneId) : LaneEvent s (s.resumeRecv n) :=
  (LaneEvent.setRcv (RecvSide.closeStep_inCycle _)).trans (.drain ..)

theorem LaneEvent.slotReleased (s : State) (c : ChanId) : LaneEvent s (s.slotReleased c) := by
  unfold State.slotReleased
  dsimp only
  split
  · split
    · refine LaneEvent.trans ?_ (.drain ..)
      split
      · exact (LaneEvent.pick ..).trans (.setRcv (RecvSide.endRecord_inCycle _))
      · exact .pick ..
    · exact .refl s
  · exact .refl s

theorem LaneEvent.recordMark (s : State) (n : LaneId) (m : EndMark) : LaneEvent s (s.recordMark n m) := by
  unfold State.recordMark
  dsimp only
  split
  · exact .takeMark ..
  · exact .setRcv rfl

theorem LaneEvent.acceptPut (s : State) (n : LaneId) (b : Byte) (mark : Bool) : LaneEvent s (s.acceptPut n b mark) :=
  (LaneEvent.setRcv (by rfl)).trans (.drain ..)

theorem LaneEvent.overrun (s : State) (n : LaneId) (mark : Bool) : LaneEvent s (s.overrun n mark) := by
  unfold State.overrun
  dsimp only
  split
  · exact (LaneEvent.recordMark ..).trans (.setRcv rfl)
  · exact .setRcv rfl

theorem LaneEvent.engineAborts (s : State) (n : LaneId) : LaneEvent s (s.engineAborts n) := by
  unfold State.engineAborts
  dsimp only
  split
  · exact (LaneEvent.setRcv (by rfl)).trans (.recordMark ..)
  · exact .setRcv rfl
  · split
    · exact .refl s
    · exact .recordMark ..

theorem LaneEvent.byteTimedOut (s : State) (n : LaneId) : LaneEvent s (s.byteTimedOut n) := by
  unfold State.byteTimedOut
  dsimp only
  split
  · exact (LaneEvent.setRcv (by rfl)).trans (.recordMark ..)
  · exact .setRcv rfl

/-! ### The send side and the turn -/

theorem SendSide.present_inCycle (x : SendSide) : x.present.mover.inCycle = x.mover.inCycle := by
  unfold SendSide.present
  split
  · split
    · next h => exact Mover.waiting_inCycle h.1
    · rfl
  · rfl

theorem SendSide.offerNext_inCycle (x : SendSide) (timer : Option Nat) (r : SendRecord) :
    (x.offerNext timer r).mover.inCycle = x.mover.inCycle := by
  unfold SendSide.offerNext
  split
  · exact SendSide.present_inCycle _
  · rfl

theorem LaneEvent.startHead (s : State) (n : LaneId) : LaneEvent s (s.startHead n) := by
  unfold State.startHead
  dsimp only
  split
  · exact (LaneEvent.setSlot ..).trans <| (LaneEvent.setSnd (by rw [SendSide.present_inCycle]; rfl)).trans <| .wakeQueue ..
  · exact .refl s

theorem LaneEvent.failRecord (s : State) (n : LaneId) (r : SendRecord) (detail : BitVec 16) :
    LaneEvent s (s.failRecord n r detail) :=
  (LaneEvent.setSnd (by simp [SendSide.abandon])).trans <| (LaneEvent.setSlot ..).trans <| (LaneEvent.wakeSlot ..).trans <|
    (LaneEvent.countFault ..).trans <| .chanNotice ..

theorem LaneEvent.grantIn (s : State) (n : LaneId) : LaneEvent s (s.grantIn n) := .setLane rfl rfl rfl

theorem LaneEvent.grantOut (s : State) (n : LaneId) : LaneEvent s (s.grantOut n) :=
  (LaneEvent.setTurn ..).trans (.startHead ..)

theorem LaneEvent.decideTurn (s : State) (n : LaneId) : LaneEvent s (s.decideTurn n) := by
  unfold State.decideTurn
  dsimp only
  split
  · split
    · exact .refl s
    · exact .grantIn ..
    · exact .grantOut ..
    · split
      · exact .grantIn ..
      · exact .grantOut ..
  · exact .refl s

theorem LaneEvent.endTurn (s : State) (n : LaneId) (d : Direction) : LaneEvent s (s.endTurn n d) := by
  rw [State.endTurn_eq]
  refine (LaneEvent.setLane (by rfl) (by rfl) ?_).trans (.decideTurn ..)
  dsimp only
  split <;> rfl

theorem LaneEvent.sendSideFree (s : State) (n : LaneId) : LaneEvent s (s.sendSideFree n) := by
  unfold State.sendSideFree
  split
  · exact .endTurn ..
  · exact .startHead ..

theorem LaneEvent.appendEntry (s : State) (n : LaneId) (e : QueueEntry) : LaneEvent s (s.appendEntry n e) := by
  unfold State.appendEntry
  dsimp only
  split
  · exact (LaneEvent.setSnd (by rfl)).trans (.startHead ..)
  · split
    · exact (LaneEvent.setSnd (by rfl)).trans (.decideTurn ..)
    · exact .setSnd rfl
  · exact .setSnd rfl

theorem LaneEvent.recordSent (s : State) (n : LaneId) (r : SendRecord) : LaneEvent s (s.recordSent n r) :=
  (LaneEvent.setSnd (by rfl)).trans <| (LaneEvent.freeSlot ..).trans <| (LaneEvent.countDone ..).trans <|
    (LaneEvent.chanNotice ..).trans <| .sendSideFree ..

theorem LaneEvent.takeByte (s : State) (n : LaneId) (r : SendRecord) : LaneEvent s (s.takeByte n r) := by
  unfold State.takeByte
  split
  · exact .recordSent ..
  · exact .setSnd (SendSide.offerNext_inCycle ..)

/-- Keeping what a decision was among changes no port, no request and no block. -/
theorem LaneEvent.noting (s t : State) : LaneEvent t (s.noting t) where
  pending := by simp
  resetn := by simp
  sbase := by simp
  bypass := by simp
  now := by simp
  guard := by simp
  port := by simp
  dev := by simp
  ring h := h.congr (by simp) (by simp)
  writing := by simp
  asked := by simp
  cycle := by simp
  held := by simp
  setup := by simp
  mode := by simp
  sndCycle := by simp
  rcvCycle := by simp

end Sys2Proof.Machine
end

section
/-! SUPPORT. The frame of every command (R16, R19, R160): what no command but the edges of RESETn and the tick changes, and the
notice unit's law (R163) over every step. -/

namespace Sys2Proof.Machine

/-! ### Updates of one block -/

theorem RingKept.withHost (s : State) (h : HostSide) : RingKept s (s.withHost h) := ⟨⟨rfl, rfl, rfl, rfl, rfl⟩, fun hr => hr.congr rfl rfl⟩

theorem RingKept.withGuard (s : State) (g : GuardState) : RingKept s (s.withGuard g) :=
  ⟨⟨rfl, rfl, rfl, rfl, rfl⟩, fun hr => hr.congr rfl rfl⟩

theorem RingKept.withArb (s : State) (a : Arbiter) : RingKept s (s.withArb a) := ⟨⟨rfl, rfl, rfl, rfl, rfl⟩, fun hr => hr.congr rfl rfl⟩

theorem RingKept.setLane (s : State) (n : LaneId) (l : Lane) : RingKept s (s.setLane n l) :=
  ⟨⟨rfl, rfl, rfl, rfl, rfl⟩, fun hr => hr.congr rfl rfl⟩

theorem RingKept.setChan (s : State) (c : ChanId) (ch : Channel) : RingKept s (s.setChan c ch) :=
  ⟨⟨rfl, rfl, rfl, rfl, rfl⟩, fun hr => hr.congr rfl rfl⟩

theorem RingKept.setRcv (s : State) (n : LaneId) (x : RecvSide) : RingKept s (s.setRcv n x) := .setLane ..

theorem RingKept.setSnd (s : State) (n : LaneId) (x : SendSide) : RingKept s (s.setSnd n x) := .setLane ..

theorem RingKept.setTurn (s : State) (n : LaneId) (x : TurnState) : RingKept s (s.setTurn n x) := .setLane ..

theorem RingKept.countPatience (s : State) : RingKept s s.countPatience := by
  rw [State.countPatience_eq]
  exact ⟨⟨rfl, rfl, rfl, rfl, rfl⟩, fun hr => hr.congr rfl rfl⟩

/-- A pass whose every step keeps a reflexive and transitive relation keeps it. -/
theorem foldl_related {ι : Type} {R : State → State → Prop} (refl : ∀ s, R s s) (trans : ∀ {s t u}, R s t → R t u → R s u)
    {f : State → ι → State} (h : ∀ s i, R s (f s i)) (l : List ι) (s : State) : R s (l.foldl f s) := by
  induction l generalizing s with
  | nil => exact refl s
  | cons i l ih => exact trans (h s i) (ih _)

theorem RingKept.foldl {ι : Type} {f : State → ι → State} (h : ∀ s i, RingKept s (f s i)) (l : List ι) (s : State) :
    RingKept s (l.foldl f s) := foldl_related .refl .trans h l s

/-! ### Setup writes -/

theorem RingKept.stopLane (sel : ChanId → Bool) (s : State) (n : LaneId) : RingKept s (s.stopLane sel n) :=
  (RingKept.setLane ..).trans (LaneEvent.drain ..).toRingKept

theorem RingKept.stopRecords (sel : ChanId → Bool) (s : State) (c : ChanId) : RingKept s (s.stopRecords sel c) := by
  unfold State.stopRecords
  split
  · exact .setChan ..
  · exact .refl s

theorem RingKept.stopChannels (s : State) (sel : ChanId → Bool) : RingKept s (s.stopChannels sel) :=
  (RingKept.foldl (RingKept.stopRecords _) _ s).trans (RingKept.foldl (RingKept.stopLane _) ..)

theorem RingKept.setupRejected (s : State) (source : Byte) (reason : BitVec 16) :
    RingKept s (s.setupRejected source reason) := (LaneEvent.generate ..).toRingKept

/-- A ring change that passes its check has size other than 7, and both indices are 0 after it (R172). -/
theorem State.ringChange_ring {s : State} (h : RingLaw s) {base : Addr} {size : BitVec 3} (hc : s.ringCheck base size = none) :
    RingLaw (((s.withDev { s.dev with ringBase := base, ringSize := size }).withNu
      { s.nu with prod := 0, cons := 0, writer := .idle }).startWriter) := by
  obtain ⟨hlen, -, -, -⟩ := h
  have hsize : size ≠ 7 := by
    rintro rfl
    simp [State.ringCheck] at hc
  exact State.startWriter_ring ⟨hlen, hsize, by simp, fun hw => absurd rfl hw⟩

theorem RingKept.ringChange (s : State) (base : Addr) (size : BitVec 3) : RingKept s (s.ringChange base size) := by
  unfold State.ringChange
  split
  · exact .setupRejected ..
  · next hc =>
    refine ⟨?_, fun h => State.ringChange_ring h hc⟩
    rw [State.startWriter_eq]
    exact ⟨rfl, rfl, rfl, rfl, rfl⟩

theorem RingKept.takeRingBase (s : State) (be : Enables) (data : Word) : RingKept s (s.takeRingBase be data) := by
  unfold State.takeRingBase
  dsimp only
  split
  · exact .refl s
  · exact .ringChange ..

/-- A consumer index that is accepted does not raise occupancy (R170). -/
theorem RingKept.takeConsumer (s : State) (be : Enables) (data : Word) : RingKept s (s.takeConsumer be data) := by
  unfold State.takeConsumer
  dsimp only
  split
  · next hle =>
    refine ⟨?_, fun ⟨hlen, hsize, hocc, hwriter⟩ => State.startWriter_ring ⟨hlen, hsize, ?_, fun hw => ⟨(hwriter hw).1, ?_⟩⟩⟩
    · rw [State.startWriter_eq]
      exact ⟨rfl, rfl, rfl, rfl, rfl⟩
    · exact le_trans hle hocc
    · exact lt_of_le_of_lt hle (hwriter hw).2
  · exact .refl s

theorem RingKept.takeDeviceStatus (s : State) (be : Enables) (data : Word) : RingKept s (s.takeDeviceStatus be data) := by
  unfold State.takeDeviceStatus
  split
  · exact ⟨⟨rfl, rfl, rfl, rfl, rfl⟩, fun h => h⟩
  · exact .refl s

theorem RingKept.withDev {s : State} {v : DeviceShadow} (h : v.ringSize = s.dev.ringSize) : RingKept s (s.withDev v) :=
  ⟨⟨rfl, rfl, rfl, rfl, rfl⟩, fun hr => hr.congr rfl h⟩

theorem RingKept.takeActive (s : State) (active : Bool) : RingKept s (s.takeActive active) := by
  have hdev : RingKept s (s.withDev { s.dev with active := active }) := .withDev rfl
  unfold State.takeActive
  dsimp only
  split
  · exact hdev.trans (.stopChannels ..)
  · exact hdev

theorem RingKept.takeRingSize (s : State) (size : BitVec 3) : RingKept s (s.takeRingSize size) := by
  unfold State.takeRingSize
  split
  · exact .refl s
  · exact .ringChange ..

theorem SameOutside.resetBlocks (s : State) : SameOutside s s.resetBlocks := ⟨rfl, rfl, rfl, rfl, rfl⟩

/-- The notice unit after either reset meets its law. -/
theorem State.resetBlocks_ring (s : State) : RingLaw s.resetBlocks :=
  RingLaw.congr (s := State.reset) (by decide) rfl rfl

theorem RingKept.sampleAll (s : State) (pins : Pins) : RingKept s (s.sampleAll pins) :=
  .foldl (fun u n => .setLane u n _) _ s

theorem RingKept.takeControl (s : State) (pins : Pins) (be : Enables) (data : Word) :
    RingKept s (s.takeControl pins be data) := by
  unfold State.takeControl
  dsimp only
  split
  · refine RingKept.trans ⟨.resetBlocks s, fun _ => s.resetBlocks_ring⟩ ?_
    exact (RingKept.withHost ..).trans (.sampleAll ..)
  · exact (RingKept.takeActive ..).trans ((RingKept.withDev (by rfl)).trans (.takeRingSize ..))

theorem RingKept.noteFreshAll (s before : State) : RingKept s (s.noteFreshAll before) :=
  .foldl (fun u n => .setLane u n _) _ s

theorem RingKept.acceptMode (s : State) (pins : Pins) (n : LaneId) (m : LaneMode) (w : Word) :
    RingKept s (s.acceptMode pins n m w) := by
  have key : ∀ u : State, RingKept u (((State.sampleLane pins u n).noteFreshAll s).compareReleased s n) := fun u =>
    (RingKept.setLane u n _).trans ((RingKept.noteFreshAll ..).trans (.setLane ..))
  unfold State.acceptMode
  dsimp only
  split
  · exact (RingKept.setLane s n _).trans ((key _).trans ((RingKept.setTurn ..).trans (LaneEvent.decideTurn ..).toRingKept))
  · exact (RingKept.setLane s n _).trans (key _)

theorem RingKept.takeLaneMode (s : State) (pins : Pins) (n : LaneId) (be : Enables) (data : Word) :
    RingKept s (s.takeLaneMode pins n be data) := by
  unfold State.takeLaneMode
  dsimp only
  split
  · exact (RingKept.setLane ..).trans (.noteFreshAll ..)
  · split
    · exact .setupRejected ..
    · exact .acceptMode ..

theorem RingKept.runRequest (s : State) (c : ChanId) : RingKept s (s.runRequest c) := by
  unfold State.runRequest
  split
  · exact .setChan ..
  · exact (RingKept.setChan ..).trans (.setupRejected ..)

theorem RingKept.takeChanControl (s : State) (c : ChanId) (be : Enables) (data : Word) :
    RingKept s (s.takeChanControl c be data) := by
  unfold State.takeChanControl
  dsimp only
  split
  · split
    · exact (RingKept.stopChannels ..).trans (.setChan ..)
    · split
      · exact .setChan ..
      · exact .refl s
  · split
    · exact (RingKept.setChan ..).trans (.runRequest ..)
    · exact (RingKept.setChan s c _).trans (.setChan ..)
    · exact .setChan ..

/-- Whatever the owner of a setup word takes from a write, the queue, straps and clock stay, and the notice unit keeps its
law. -/
theorem RingKept.takeSetup (s : State) (pins : Pins) (w : SetupWord) (be : Enables) (data : Word) :
    RingKept s (s.takeSetup pins w be data) := by
  cases w with
  | deviceControl => exact .takeControl ..
  | ringBase => exact .takeRingBase ..
  | consumerIndex => exact .takeConsumer ..
  | deviceStatus => exact .takeDeviceStatus ..
  | laneMode n => exact .takeLaneMode ..
  | laneTimer n => exact .setLane ..
  | laneMirror n => exact .setLane ..
  | chanControl c => exact .takeChanControl ..
  | chanBase c =>
    change RingKept s (s.takeChanBase c be data)
    unfold State.takeChanBase
    dsimp only
    split
    · exact .refl s
    · exact .setChan ..
  | chanGeometry c =>
    change RingKept s (s.takeChanGeometry c be data)
    unfold State.takeChanGeometry
    dsimp only
    split
    · exact .refl s
    · exact .setChan ..
  | chanStall c => exact .setChan ..
  | enableSet c => exact .setChan ..
  | enableClear c => exact .setChan ..
  | producerIndex => exact .refl s
  | laneStatus n => exact .refl s
  | chanStatus c => exact .refl s
  | chanCounts c => exact .refl s
  | unused => exact .refl s

/-! ### Slot writes -/

theorem LaneEvent.takeCommit (s : State) (c : ChanId) (k len : Nat) : LaneEvent s (s.takeCommit c k len) :=
  (LaneEvent.setSlot s c k _).trans <| (LaneEvent.setChan (by rfl)).trans <| .appendEntry ..

theorem LaneEvent.takeWithdraw (s : State) (c : ChanId) (k : Nat) : LaneEvent s (s.takeWithdraw c k) :=
  (LaneEvent.setSnd (by rfl)).trans (.setSlot ..)

theorem LaneEvent.takeRelease (s : State) (c : ChanId) (k : Nat) : LaneEvent s (s.takeRelease c k) :=
  (LaneEvent.setSlot ..).trans (.slotReleased ..)

theorem LaneEvent.commitRefused (s : State) (c : ChanId) (k : Nat) (detail : BitVec 16) :
    LaneEvent s (s.commitRefused c k detail) := (LaneEvent.countFault ..).trans (.chanNotice ..)

theorem LaneEvent.guardDiscard (s : State) (c : ChanId) (k word : Nat) (cause : BitVec 2) :
    LaneEvent s (s.guardDiscard c k word cause) := (LaneEvent.countFault ..).trans (.chanNotice ..)

theorem RingKept.memoryCycle (s : State) (r : HostRecord) (cyc : HostCycle) : RingKept s (s.memoryCycle r cyc) :=
  (RingKept.withArb ..).trans (.withHost ..)

theorem RingKept.performWrite (s : State) (r : HostRecord) (herr : Bool) : RingKept s (s.performWrite r herr) :=
  (RingKept.withGuard ..).trans (.memoryCycle ..)

theorem RingKept.endWrite (s : State) (r : HostRecord) (herr : Bool) (data : Option Word) :
    RingKept s (s.clearGuard.endAccess r herr data) := (RingKept.withGuard ..).trans (.withHost ..)

theorem RingKept.endStalled (s : State) (r : HostRecord) (h : HeldWrite) : RingKept s (s.endStalled r h) := by
  unfold State.endStalled
  dsimp only
  split
  · exact (LaneEvent.guardDiscard ..).toRingKept.trans (.endWrite ..)
  · exact (LaneEvent.commitRefused ..).toRingKept.trans (.endWrite ..)

theorem RingKept.holdWrite (s : State) (r : HostRecord) (h : HeldWrite) : RingKept s (s.holdWrite r h) := by
  unfold State.holdWrite
  dsimp only
  split
  · split
    · exact .endStalled ..
    · exact (RingKept.withGuard ..).trans (.withHost ..)
  · exact (RingKept.withGuard ..).trans (.withHost ..)

theorem RingKept.guardedWrite (s : State) (r : HostRecord) (c : ChanId) (k word : Nat) :
    RingKept s (s.guardedWrite r c k word) := by
  unfold State.guardedWrite
  dsimp only
  split
  · exact .holdWrite ..
  · split <;> exact (LaneEvent.guardDiscard ..).toRingKept.trans (.endWrite ..)

theorem RingKept.commitWrite (s : State) (r : HostRecord) (c : ChanId) (k len : Nat) :
    RingKept s (s.commitWrite r c k len) := by
  unfold State.commitWrite
  dsimp only
  split
  · exact (LaneEvent.takeCommit ..).toRingKept.trans (.performWrite ..)
  · split
    · exact .holdWrite ..
    · exact (LaneEvent.commitRefused ..).toRingKept.trans (.performWrite ..)

theorem RingKept.headerWrite (s : State) (r : HostRecord) (c : ChanId) (k : Nat) (m : HeaderMeaning) :
    RingKept s (s.headerWrite r c k m) := by
  cases m with
  | plain => exact .performWrite ..
  | commit len => exact .commitWrite ..
  | refusedLength => exact (LaneEvent.commitRefused ..).toRingKept.trans (.performWrite ..)
  | failedFree => exact (LaneEvent.setSlot ..).toRingKept.trans (.performWrite ..)
  | recommit len => exact .commitWrite ..
  | withdraw => exact (LaneEvent.takeWithdraw ..).toRingKept.trans (.performWrite ..)
  | release => exact (LaneEvent.takeRelease ..).toRingKept.trans (.performWrite ..)
  | guarded => exact .guardedWrite ..

theorem RingKept.payloadWrite (s : State) (r : HostRecord) (c : ChanId) (k word : Nat) :
    RingKept s (s.payloadWrite r c k word) := by
  unfold State.payloadWrite
  split
  · exact .guardedWrite ..
  · exact .performWrite ..

theorem RingKept.grantAccess (s : State) (pins : Pins) (r : HostRecord) : RingKept s (s.grantAccess pins r) := by
  unfold State.grantAccess
  split
  · exact (RingKept.takeSetup ..).trans (.memoryCycle ..)
  · exact .headerWrite ..
  · exact .payloadWrite ..
  · exact .memoryCycle ..
  · exact .memoryCycle ..

theorem RingKept.grantWhen (s : State) (p : State → HostRecord → Bool) (pins : Pins) : RingKept s (s.grantWhen p pins) := by
  rcases grantWhen_cases s p pins with ⟨r, _, _, _, heq⟩ | heq
  · rw [heq]
    exact (RingKept.countPatience s).trans (.grantAccess ..)
  · rw [heq]
    exact .refl s

/-! ### The host port -/

theorem RingKept.setupReadEffect (s : State) (w : SetupWord) : RingKept s (s.setupReadEffect w) := by
  unfold State.setupReadEffect
  split
  · exact .setLane ..
  · exact .refl s

theorem RingKept.arrive (s : State) (b : HostBus) (pins : Pins) : RingKept s (s.arrive b pins) := by
  unfold State.arrive
  dsimp only
  split
  · exact (RingKept.withHost s _).trans (.withHost ..)
  · split
    · exact (RingKept.withHost ..).trans ((RingKept.setupReadEffect ..).trans (.withHost ..))
    · exact (RingKept.withHost s _).trans (.withHost ..)

theorem RingKept.strobeAgain (s : State) (r : HostRecord) (cyc : HostCycle) (b : HostBus) :
    RingKept s (s.strobeAgain r cyc b) := by
  unfold State.strobeAgain
  dsimp only
  split
  · exact (RingKept.withHost s _).trans (.withHost ..)
  · exact .withHost ..

theorem RingKept.arriveAgain (s : State) (r : HostRecord) (b : HostBus) (pins : Pins) :
    RingKept s (s.arriveAgain r b pins) := by
  unfold State.arriveAgain
  generalize (if r.write then s.host.rdStrobe else s.host.wrStrobe) = other
  cases other
  · exact (RingKept.withHost s _).trans (.arrive ..)
  · exact .refl s

theorem RingKept.strobe (s : State) (b : HostBus) (pins : Pins) : RingKept s (s.strobe b pins) := by
  unfold State.strobe
  split
  · exact .refl s
  · split
    · split
      · exact (RingKept.arrive ..).trans (LaneEvent.noting ..).toRingKept
      · exact .withHost ..
    · split
      · exact .strobeAgain ..
      · exact .withHost ..
    · exact .withHost ..

/-- An event of the lanes, with what a decision was among kept. -/
theorem LaneEvent.noted {s t : State} (h : LaneEvent s t) : LaneEvent s (s.noting t) := h.trans (.noting s t)

theorem RingKept.noted {s t : State} (h : RingKept s t) : RingKept s (s.noting t) := h.trans (LaneEvent.noting s t).toRingKept

/-! ### The commands of the lanes -/

/-- The effect of a command that only an event of the lanes can have. -/
theorem LaneEvent.execTakeAssertion (n : LaneId) (s : State) : ∃ t, execTakeAssertion n s = .next t ∧ LaneEvent s t := by
  refine ⟨_, rfl, ?_⟩
  split
  · exact .setSnd rfl
  · exact .refl s

theorem LaneEvent.execMarkAssertion (n : MarkStart) (s : State) : ∃ t, execMarkAssertion n s = .next t ∧ LaneEvent s t := by
  refine ⟨_, rfl, ?_⟩
  split
  · exact .setRcv rfl
  · exact .refl s

theorem LaneEvent.execTake (n : LaneId) (s : State) : ∃ t, execTake n s = .next t ∧ LaneEvent s t := by
  refine ⟨_, rfl, ?_⟩
  have pulse : LaneEvent s (s.setSnd n { (s.lane n).snd with takePulse := none }) := .setSnd rfl
  dsimp only
  split
  · split
    · exact (pulse.trans (.takeByte ..)).noted
    · exact pulse
  · exact pulse

theorem LaneEvent.execTakeTimerExpiry (n : LaneId) (s : State) :
    ∃ t, execTakeTimerExpiry n s = .next t ∧ LaneEvent s t := by
  refine ⟨_, rfl, ?_⟩
  split
  · split
    · exact (LaneEvent.failRecord ..).noted
    · exact .refl s
  · exact .refl s

theorem LaneEvent.execAbortStrobeEnd (n : LaneId) (s : State) : ∃ t, execAbortStrobeEnd n s = .next t ∧ LaneEvent s t := by
  refine ⟨_, rfl, ?_⟩
  split
  · exact ((LaneEvent.setSnd (by rfl)).trans (.sendSideFree ..)).noted
  · exact .refl s

theorem LaneEvent.execPut (n : LaneId) (b : Byte) (mark : Bool) (s : State) :
    ∃ t, execPut n b mark s = .next t ∧ LaneEvent s t := by
  refine ⟨_, rfl, ?_⟩
  dsimp only
  split
  · apply LaneEvent.noted
    have seen : LaneEvent s (s.setLane n { s.lane n with
        turn := { (s.lane n).turn with putSeen := true }
        rcv := { (s.lane n).rcv with markPulse := if mark then some true else none } }) := .setLane rfl rfl rfl
    have put (t : State) : LaneEvent t
        (if (s.lane n).rcv.rx.length < 16 then t.acceptPut n b mark else t.overrun n mark) := by
      split
      · exact .acceptPut ..
      · exact .overrun ..
    split
    · exact seen.trans ((put _).trans (.endTurn ..))
    · exact seen.trans (put _)
  · exact .refl s

theorem LaneEvent.execEngineAbort (n : LaneId) (s : State) : ∃ t, execEngineAbort n s = .next t ∧ LaneEvent s t := by
  refine ⟨_, rfl, ?_⟩
  have pulse : LaneEvent s (s.setRcv n { (s.lane n).rcv with markPulse := none }) := .setRcv rfl
  dsimp only
  split
  · apply LaneEvent.noted
    split
    · exact pulse.trans ((LaneEvent.engineAborts ..).trans (.endTurn ..))
    · exact pulse.trans (.engineAborts ..)
  · exact pulse

theorem LaneEvent.execByteTimerExpiry (n : LaneId) (s : State) :
    ∃ t, execByteTimerExpiry n s = .next t ∧ LaneEvent s t := by
  refine ⟨_, rfl, ?_⟩
  split
  · apply LaneEvent.noted
    split
    · exact (LaneEvent.byteTimedOut ..).trans (.endTurn ..)
    · exact .byteTimedOut ..
  · exact .refl s

theorem LaneEvent.execSlotWaitExpiry (n : LaneId) (s : State) : ∃ t, execSlotWaitExpiry n s = .next t ∧ LaneEvent s t := by
  refine ⟨_, rfl, ?_⟩
  split
  · split
    · exact ((LaneEvent.dropWaiting ..).trans (.drain ..)).noted
    · exact .refl s
  · exact .refl s

theorem LaneEvent.execWantRise (n : LaneId) (s : State) : ∃ t, execWantRise n s = .next t ∧ LaneEvent s t := by
  refine ⟨_, rfl, ?_⟩
  split
  · exact ((LaneEvent.setTurn ..).trans (.decideTurn ..)).noted
  · exact .refl s

theorem LaneEvent.execWantFall (n : LaneId) (s : State) : ∃ t, execWantFall n s = .next t ∧ LaneEvent s t := by
  refine ⟨_, rfl, ?_⟩
  dsimp only
  split
  · split
    · exact ((LaneEvent.setTurn ..).trans (.endTurn ..)).noted
    · exact .setTurn ..
  · exact .refl s

/-! ### The completions of the movers -/

/-- The header write's completion is an event of the lanes once the mover is NONE (R136). -/
theorem LaneEvent.recordReady (s : State) (n : LaneId) (r : FillRecord) :
    LaneEvent (s.setRcv n { (s.lane n).rcv with state := .idle, mover := .none }) (s.recordReady n r) :=
  (LaneEvent.setSlot ..).trans <| (LaneEvent.setChan (by rfl)).trans <| (LaneEvent.countDone ..).trans <|
    (LaneEvent.wakeSlot ..).trans <| .chanNotice ..

theorem RingKept.recvWriteDone (s : State) (n : LaneId) : RingKept s (s.recvWriteDone n) := by
  unfold State.recvWriteDone
  dsimp only
  split
  · split
    · exact (RingKept.setRcv ..).trans (LaneEvent.recordReady ..).toRingKept
    · exact .setRcv ..
  · exact .setRcv ..

theorem RingKept.recvWriteError (s : State) (n : LaneId) : RingKept s (s.recvWriteError n) := by
  unfold State.recvWriteError
  dsimp only
  split
  · exact (RingKept.setRcv ..).trans (LaneEvent.dropRecord ..).toRingKept
  · exact (RingKept.setRcv ..).trans (LaneEvent.dropRecord ..).toRingKept
  · exact .setRcv ..

theorem RingKept.freePort (s : State) : RingKept s s.freePort := .withArb ..

theorem RingKept.execReceiveMoverWriteCompletion (merr : Bool) (s : State) :
    ∃ t, execReceiveMoverWriteCompletion merr s = .next t ∧ RingKept s t := by
  refine ⟨_, rfl, ?_⟩
  split
  · dsimp only
    split
    · refine (RingKept.freePort s).trans (RingKept.trans ?_ (LaneEvent.resumeRecv ..).toRingKept)
      split
      · exact .recvWriteError ..
      · exact .recvWriteDone ..
    · exact (RingKept.freePort s).trans ((RingKept.setRcv ..).trans (LaneEvent.resumeRecv ..).toRingKept)
    · exact .freePort s
  · exact .refl s

theorem RingKept.execSendMoverReadCompletion (data : Word) (merr : Bool) (s : State) :
    ∃ t, execSendMoverReadCompletion data merr s = .next t ∧ RingKept s t := by
  refine ⟨_, rfl, ?_⟩
  split
  · dsimp only
    split
    · split
      · exact (RingKept.freePort s).trans ((RingKept.setSnd ..).trans (LaneEvent.failRecord ..).toRingKept)
      · exact (RingKept.freePort s).trans (.setSnd ..)
    · exact (RingKept.freePort s).trans (.setSnd ..)
    · exact .freePort s
  · exact .refl s

/-! ### The notice writer -/

/-- The notice writer's word 1 completes: the list is one shorter and occupancy one higher, within the ring (R168). -/
theorem State.noticeWritten_ring {s : State} (h : RingLaw s) (hw : s.nu.writer ≠ .idle) : RingLaw s.noticeWritten := by
  obtain ⟨hlen, hsize, hocc, hwriter⟩ := h
  obtain ⟨_, hroom⟩ := hwriter hw
  refine State.startWriter_ring ⟨?_, hsize, ?_, fun hidle => absurd rfl hidle⟩
  · simp only [State.withNu_nu, List.length_tail]
    omega
  · simp only [State.withNu_nu, State.withNu_dev]
    calc (s.nu.prod + 1 - s.nu.cons).toNat ≤ (s.nu.prod - s.nu.cons).toNat + 1 := by bv_omega
      _ ≤ ringRecords s.dev.ringSize := hroom

/-- A failed notice leaves the list one shorter and the indices as they are (R169). -/
theorem State.noticeFailed_ring {s : State} (h : RingLaw s) : RingLaw s.noticeFailed := by
  obtain ⟨hlen, hsize, hocc, hwriter⟩ := h
  refine State.startWriter_ring ⟨?_, hsize, hocc, fun hidle => absurd rfl hidle⟩
  simp only [State.withNu_nu, List.length_tail]
  omega

theorem RingKept.noticeFailed (s : State) : RingKept s s.noticeFailed := by
  refine ⟨?_, State.noticeFailed_ring⟩
  unfold State.noticeFailed
  rw [State.startWriter_eq]
  exact ⟨rfl, rfl, rfl, rfl, rfl⟩

theorem RingKept.noticeWritten {s : State} (hw : s.nu.writer = .word1Writing) : RingKept s s.noticeWritten := by
  refine ⟨?_, fun h => State.noticeWritten_ring h (by rw [hw]; decide)⟩
  unfold State.noticeWritten
  rw [State.startWriter_eq]
  exact ⟨rfl, rfl, rfl, rfl, rfl⟩

theorem RingKept.execNoticeWordCompletion (merr : Bool) (s : State) :
    ∃ t, execNoticeWordCompletion merr s = .next t ∧ RingKept s t := by
  refine ⟨_, rfl, ?_⟩
  split
  · dsimp only
    split
    · next hw =>
      split
      · exact (RingKept.freePort s).trans (.noticeFailed _)
      · refine ⟨⟨rfl, rfl, rfl, rfl, rfl⟩, fun ⟨hlen, hsize, hocc, hwriter⟩ => ⟨hlen, hsize, hocc, fun _ => hwriter ?_⟩⟩
        rw [hw]
        decide
    · next hw =>
      split
      · exact (RingKept.freePort s).trans (.noticeFailed _)
      · exact (RingKept.freePort s).trans (.noticeWritten hw)
    · exact .freePort s
  · exact .refl s

/-! ### The grant of an internal requester -/

/-- The requester that a grant marks had its request presented, so the notice writer was not IDLE (R147, R167). -/
theorem State.markGranted_ring {s : State} {who : Requester} (hp : s.presented who = true) (h : RingLaw s) :
    RingLaw (s.markGranted who) := by
  cases who with
  | host => exact h
  | send n => exact h
  | recv n => exact h
  | notice =>
    obtain ⟨hlen, hsize, hocc, hwriter⟩ := h
    refine ⟨hlen, hsize, hocc, fun _ => hwriter ?_⟩
    intro hidle
    simp [State.presented, hidle] at hp

theorem RingKept.markGranted {s : State} {who : Requester} (hp : s.presented who = true) : RingKept s (s.markGranted who) := by
  refine ⟨?_, State.markGranted_ring hp⟩
  cases who <;> exact ⟨rfl, rfl, rfl, rfl, rfl⟩

theorem RingKept.drawFree (s : State) (b : Bool) : RingKept s (s.drawFree b) := by
  rw [State.drawFree_eq]
  exact ⟨⟨rfl, rfl, rfl, rfl, rfl⟩, fun hr => hr.congr rfl rfl⟩

theorem RingKept.grantInternal {s : State} {p : Fin 9} (hp : s.presented (requesterAt p) = true) :
    RingKept s (s.grantInternal p) := by
  unfold State.grantInternal
  split
  · exact (RingKept.markGranted hp).trans ((RingKept.drawFree ..).trans (.withArb ..))
  · exact .refl s

theorem RingKept.execMemoryPortGrant (s : State) : ∃ t, execMemoryPortGrant s = .next t ∧ RingKept s t := by
  refine ⟨_, rfl, ?_⟩
  split
  · split
    · next p hp => exact .grantInternal (State.presented_of_contends (s.contends_of_candidates (State.nextInternal_mem hp)))
    · exact .refl s
  · exact .refl s

/-! ### The host's own commands -/

theorem RingKept.execStallTimerExpiry (s : State) : ∃ t, execStallTimerExpiry s = .next t ∧ RingKept s t := by
  refine ⟨_, rfl, ?_⟩
  split
  · split
    · exact (RingKept.endStalled ..).noted
    · exact (RingKept.endStalled ..).noted
    · exact .refl s
  · exact .refl s

theorem RingKept.execHostAccessCompletion (data : CycleEnd) (merr : Bool) (s : State) :
    ∃ t, execHostAccessCompletion data merr s = .next t ∧ RingKept s t := by
  refine ⟨_, rfl, ?_⟩
  split
  · split
    · have ended : RingKept s (s.freePort.withHost { s.host with port := .idle }) := (RingKept.freePort s).trans (.withHost ..)
      dsimp only
      split
      · exact ended.trans (.arriveAgain ..)
      · exact ended
    · exact (RingKept.freePort s).trans (.withHost ..)
  · exact .refl s

theorem RingKept.execEarlyStrobeRelease (s : State) : ∃ t, execEarlyStrobeRelease s = .next t ∧ RingKept s t := by
  refine ⟨_, rfl, ?_⟩
  split
  · exact ((RingKept.withGuard s _).trans (.withHost ..)).noted
  · exact (RingKept.withGuard s _).trans (.withHost ..)
  · exact .withHost ..
  · exact .refl s

theorem RingKept.execHostStrobeRelease (rd wr : Bool) (s : State) :
    ∃ t, execHostStrobeRelease rd wr s = .next t ∧ RingKept s t := by
  refine ⟨_, rfl, ?_⟩
  split <;> exact .withHost ..

/-! ### Every command -/

/-- The command is neither an edge of RESETn nor the tick of the timer base. -/
def keepsOutside : Instr → Bool
  | .hardwareReset _ _ => false
  | .resetRelease _ _ _ _ => false
  | .watchSample _ => false
  | _ => true

theorem LaneEvent.exists_ringKept {s : State} {o : Host.Outcome State Fault Refusal}
    (h : ∃ t, o = .next t ∧ LaneEvent s t) : ∃ t, o = .next t ∧ RingKept s t :=
  h.imp fun _ ⟨ht, hev⟩ => ⟨ht, hev.toRingKept⟩

/-- A command that is neither an edge of RESETn nor the tick leaves the queue, RESETn, the straps and the clock, and the notice
unit's law. -/
theorem exec_ringKept (c : Instr) (hc : keepsOutside c = true) (s : State) : ∃ t, exec c s = .next t ∧ RingKept s t := by
  cases c with
  | hardwareReset => cases hc
  | resetRelease => cases hc
  | watchSample => cases hc
  | hostAccessArrival => exact ⟨_, rfl, .strobe ..⟩
  | mirrorWordRead => exact ⟨_, rfl, .strobe ..⟩
  | hostAccessCompletion => exact RingKept.execHostAccessCompletion ..
  | earlyStrobeRelease => exact RingKept.execEarlyStrobeRelease s
  | hostStrobeRelease => exact RingKept.execHostStrobeRelease ..
  | stallTimerExpiry => exact RingKept.execStallTimerExpiry s
  | memoryPortGrant => exact RingKept.execMemoryPortGrant s
  | sendMoverReadCompletion => exact RingKept.execSendMoverReadCompletion ..
  | receiveMoverWriteCompletion => exact RingKept.execReceiveMoverWriteCompletion ..
  | noticeWordCompletion => exact RingKept.execNoticeWordCompletion ..
  | take n => exact LaneEvent.exists_ringKept (LaneEvent.execTake n s)
  | takeTimerExpiry n => exact LaneEvent.exists_ringKept (LaneEvent.execTakeTimerExpiry n s)
  | abortStrobeEnd n => exact LaneEvent.exists_ringKept (LaneEvent.execAbortStrobeEnd n s)
  | put n b mark => exact LaneEvent.exists_ringKept (LaneEvent.execPut n b mark s)
  | engineAbort n => exact LaneEvent.exists_ringKept (LaneEvent.execEngineAbort n s)
  | byteTimerExpiry n => exact LaneEvent.exists_ringKept (LaneEvent.execByteTimerExpiry n s)
  | slotWaitExpiry n => exact LaneEvent.exists_ringKept (LaneEvent.execSlotWaitExpiry n s)
  | wantRise n => exact LaneEvent.exists_ringKept (LaneEvent.execWantRise n s)
  | wantFall n => exact LaneEvent.exists_ringKept (LaneEvent.execWantFall n s)
  | takeAssertion n => exact LaneEvent.exists_ringKept (LaneEvent.execTakeAssertion n s)
  | markAssertion n => exact LaneEvent.exists_ringKept (LaneEvent.execMarkAssertion n s)
  | _ => exact ⟨_, rfl, .grantWhen ..⟩

/-! ### The edges of RESETn and the tick -/

/-- The rise of RESETn takes the straps; what it does then is an arrival's. -/
theorem exec_resetRelease_kept (sbase : BitVec 8) (bypass : Bool) (bus : HostBus) (pins : Pins) (s : State) :
    ∃ t, exec (.resetRelease sbase bypass bus pins) s = .next t ∧ t.pending = s.pending ∧ t.now = s.now ∧
      (RingLaw s → RingLaw t) := by
  refine ⟨_, rfl, ?_⟩
  split
  · exact ⟨rfl, rfl, id⟩
  · have hk := (RingKept.sampleAll { s with resetn := true, sbase := sbase, bypass := bypass } pins).trans
      (.strobe _ bus pins)
    exact ⟨hk.pending, hk.now, fun h => hk.ring (h.congr rfl rfl)⟩

theorem RingKept.watchLane (pins : Pins) (s : State) (n : LaneId) : RingKept s (State.watchLane pins s n) := by
  unfold State.watchLane
  dsimp only
  split
  · exact (RingKept.setLane ..).trans (LaneEvent.generate ..).toRingKept
  · exact .setLane ..

/-- A tick is one more of the clock and then the watch samples of the lanes. -/
theorem exec_watchSample_kept (pins : Pins) (s : State) :
    ∃ t, exec (.watchSample pins) s = .next t ∧ RingKept { s with now := s.now + 1 } t := by
  refine ⟨_, rfl, ?_⟩
  dsimp only
  split
  · exact (RingKept.foldl (RingKept.watchLane pins) ..).trans (LaneEvent.noting ..).toRingKept
  · exact .refl _

/-! ### The statements -/

/-- Settles O2: the frame of the shared operations that each command is made of, and of the two edges of RESETn and the tick
by themselves. -/
theorem everyCommandKeepsQueueStrapsAndClock : Obligations.EveryCommandKeepsQueueStrapsAndClock := by
  intro c s
  by_cases hc : keepsOutside c = true
  · obtain ⟨t, ht, hk⟩ := exec_ringKept c hc s
    refine ⟨t, ht, hk.pending, fun _ _ => ⟨hk.sbase, hk.bypass, hk.resetn⟩, fun _ => hk.now, ?_⟩
    rintro p rfl
    cases hc
  · cases c with
    | hardwareReset a b => exact ⟨_, rfl, rfl, fun h => absurd rfl (h a b), fun _ => rfl, nofun⟩
    | resetRelease a b u p =>
      obtain ⟨t, ht, hpending, hnow, _⟩ := exec_resetRelease_kept a b u p s
      exact ⟨t, ht, hpending, fun _ h => absurd rfl (h a b u p), fun _ => hnow, nofun⟩
    | watchSample p =>
      obtain ⟨t, ht, hk⟩ := exec_watchSample_kept p s
      exact ⟨t, ht, hk.pending, fun _ _ => ⟨hk.sbase, hk.bypass, hk.resetn⟩, fun h => absurd rfl (h p), fun _ _ => hk.now⟩
    | _ => exact absurd rfl hc

/-- Every command keeps the notice unit's law. -/
theorem exec_ringLaw {c : Instr} {s t : State} (h : RingLaw s) (ht : exec c s = .next t) : RingLaw t := by
  by_cases hc : keepsOutside c = true
  · obtain ⟨u, hu, hk⟩ := exec_ringKept c hc s
    cases hu.symm.trans ht
    exact hk.ring h
  · cases c with
    | hardwareReset a b =>
      cases ht
      exact s.resetBlocks_ring.congr rfl rfl
    | resetRelease a b bus p =>
      obtain ⟨u, hu, _, _, hring⟩ := exec_resetRelease_kept a b bus p s
      cases hu.symm.trans ht
      exact hring h
    | watchSample p =>
      obtain ⟨u, hu, hk⟩ := exec_watchSample_kept p s
      cases hu.symm.trans ht
      exact hk.ring (h.congr rfl rfl)
    | _ => exact absurd rfl hc

/-- A step idles, or runs a command on the state with the queue's rest. -/
theorem step_cases {s t : State} (h : step s = .next t) :
    s = t ∨ ∃ c rest, s.pending = c :: rest ∧ exec c { s with pending := rest } = .next t := by
  unfold step at h
  split at h
  · exact .inl (Host.Outcome.next.inj h)
  · next c rest hp => exact .inr ⟨c, rest, hp, h⟩

/-- Settles O58: the law speaks of the notice unit and of RING_SIZE, which change only by generated notices, by the writer's
words, and by a ring change or a consumer index that passes its check. -/
theorem everyStepKeepsTheRingLaw : Obligations.EveryStepKeepsTheRingLaw := by
  intro s t h hstep
  rcases step_cases hstep with rfl | ⟨c, rest, _, hc⟩
  · exact h
  · have hrest : RingLaw { s with pending := rest } := RingLaw.congr h rfl rfl
    exact exec_ringLaw hrest hc

end Sys2Proof.Machine
end

section
/-! SUPPORT. Steps, the two edges of RESETn, the restart, and the host port's arrivals, completions and releases (R1 to R19, R32 to
R35). -/

namespace Sys2Proof.Machine

/-! ### Steps and named grants -/

/-- Settles O1, by the two cases of the queue. -/
theorem stepRunsTheFrontCommand : Obligations.StepRunsTheFrontCommand := by
  refine ⟨fun c rest s => rfl, fun s h => ?_⟩
  unfold step
  rw [h]

/-- Of the pins, only a write of the device control word with RESTART or of a lane's mode word that changes MODE reads the
levels (R89, R155). -/
def readsPins (s : State) (r : HostRecord) : Bool :=
  (r.setupTarget == some .deviceControl && carriesRestart r.be r.data) ||
    targets r fun w => match w with
      | .laneMode n => s.writtenMode n r.be r.data != (s.lane n).mode
      | _ => false

/-- A setup write that reads no pins takes the same effect whatever their levels are. -/
theorem State.takeSetup_pins {s : State} {w : SetupWord} {be : Enables} {data : Word}
    (hcontrol : w = .deviceControl → carriesRestart be data = false)
    (hmode : ∀ n, w = .laneMode n → s.writtenMode n be data = (s.lane n).mode) (p q : Pins) :
    s.takeSetup p w be data = s.takeSetup q w be data := by
  cases w with
  | deviceControl =>
    change s.takeControl p be data = s.takeControl q be data
    simp only [State.takeControl, hcontrol rfl, Bool.false_eq_true, if_false]
  | laneMode n =>
    change s.takeLaneMode p n be data = s.takeLaneMode q n be data
    simp only [State.takeLaneMode, hmode n rfl, if_true]
  | _ => rfl

theorem State.countPatience_lane (s : State) (n : LaneId) : s.countPatience.lane n = s.lane n := by
  rw [State.countPatience_eq]; rfl

/-- A granted access that reads no pins takes the same effect whatever their levels are. -/
theorem State.grantAccess_pins {s : State} {r : HostRecord} (h : readsPins s r = false) (p q : Pins) :
    s.grantAccess p r = s.grantAccess q r := by
  obtain ⟨hcontrol, hmode⟩ := Bool.or_eq_false_iff.mp h
  cases hw : r.setupTarget with
  | some w =>
    rw [State.grantAccess_setup hw, State.grantAccess_setup hw, State.takeSetup_pins ?_ ?_ p q]
    · rintro rfl
      simpa [hw] using hcontrol
    · rintro n rfl
      simpa [targets, hw] using hmode
  | none =>
    unfold HostRecord.setupTarget at hw
    unfold State.grantAccess
    split at hw
    · cases hw
    · next hne =>
      split
      · next hcls hwrite => exact absurd hwrite (hne _ hcls)
      all_goals rfl

/-- A grant command made with other pins than HOST_GRANT's is that grant or no event, where no access it names reads them. -/
theorem grantWhen_low {p : State → HostRecord → Bool} {s : State} (h : ∀ r, p s r = true → readsPins s r = false)
    (pins : Pins) :
    s.grantWhen p .low = s ∨ s.grantWhen p .low = s.grantWhen (fun _ _ => true) pins := by
  rcases grantWhen_cases s p .low with ⟨r, hport, hwins, hp, heq⟩ | heq
  · right
    have hreads : readsPins s.countPatience r = false := by
      have := h r hp
      unfold readsPins at this ⊢
      simpa only [State.writtenMode, State.modePresented, State.countPatience_lane] using this
    rw [heq, State.grantAccess_pins hreads .low pins]
    unfold State.grantWhen
    simp only [hport, hwins, Bool.and_true, if_true]
  · exact .inl heq

/-- A grant command made with HOST_GRANT's pins is that grant or no event. -/
theorem grantWhen_same (p : State → HostRecord → Bool) (s : State) (pins : Pins) :
    s.grantWhen p pins = s ∨ s.grantWhen p pins = s.grantWhen (fun _ _ => true) pins := by
  rcases grantWhen_cases s p pins with ⟨r, hport, hwins, hp, heq⟩ | heq
  · right
    rw [heq]
    unfold State.grantWhen
    simp only [hport, hwins, Bool.and_true, if_true]
  · exact .inl heq

/-- A device control write without RESTART reads no pins. -/
theorem readsPins_plainControl {s : State} {r : HostRecord} (h : plainControl r = true) : readsPins s r = false := by
  obtain ⟨hw, hplain⟩ := plainControl_true h
  simp [readsPins, hplain, targets_of_setupWrite hw]

/-- A write of a setup word other than the control word and the mode words reads no pins. -/
theorem readsPins_other {s : State} {r : HostRecord} {w : SetupWord} (hw : SetupWrite r w) (hcontrol : w ≠ .deviceControl)
    (hmode : ∀ n, w = .laneMode n → s.writtenMode n r.be r.data = (s.lane n).mode) : readsPins s r = false := by
  have hw' : r.setupTarget = some w := hw
  unfold readsPins
  rw [targets_of_setupWrite hw, hw']
  cases w with
  | deviceControl => exact absurd rfl hcontrol
  | laneMode n => simp [hmode n rfl]
  | _ => rfl

/-- A slot header write reads no pins. -/
theorem readsPins_header {s : State} {r : HostRecord} {c : ChanId} {k : Nat} (h : r.cls = .slotHeader c k) :
    readsPins s r = false := by
  have hw : r.setupTarget = none := by
    unfold HostRecord.setupTarget
    rw [h]
  simp [readsPins, targets, hw]

theorem readsPins_meaning {s : State} {r : HostRecord} {m : HeaderMeaning} (h : (s.meaningAtGrant r == some m) = true) :
    readsPins s r = false := by
  unfold State.meaningAtGrant at h
  split at h
  · next hcls _ => exact readsPins_header hcls
  · cases h

theorem readsPins_commitTo {s : State} {r : HostRecord} {state : SlotState} (h : s.commitTo r state = true) :
    readsPins s r = false := by
  unfold State.commitTo at h
  split at h
  · next hcls _ => exact readsPins_header hcls
  · cases h

/-- A command over setup words other than the control and mode words reads no pins. -/
theorem readsPins_targets {s : State} {r : HostRecord} {p : SetupWord → Bool} (h : targets r p = true)
    (hcontrol : p .deviceControl = false)
    (hmode : ∀ n, p (.laneMode n) = true → s.writtenMode n r.be r.data = (s.lane n).mode) : readsPins s r = false := by
  obtain ⟨w, hw, hp⟩ := targets_true h
  refine readsPins_other hw ?_ ?_
  · rintro rfl
    rw [hcontrol] at hp
    cases hp
  · rintro n rfl
    exact hmode n hp

/-- Settles O15: each named command is the host grant of the access it names, which reads pins only where the command itself
brings them. -/
theorem aNamedGrantIsTheHostGrant : Obligations.ANamedGrantIsTheHostGrant := by
  have lift {s t u : State} (h : t = s ∨ t = u) : (Host.Outcome.next t : Host.Outcome State Fault Refusal) = .next s ∨
      (Host.Outcome.next t : Host.Outcome State Fault Refusal) = .next u := h.imp (congrArg _) (congrArg _)
  have word {w : SetupWord} {r : HostRecord} (h : (r.setupTarget == some w) = true) : SetupWrite r w := eq_of_beq h
  have left {a b : Bool} (h : (a && b) = true) : a = true := (Bool.and_eq_true_iff.mp h).1
  intro s pins
  simp only [List.forall_mem_cons, List.not_mem_nil, false_implies, implies_true, and_true]
  refine ⟨lift (grantWhen_low (fun r h => readsPins_plainControl (left (left h))) pins),
    lift (grantWhen_low (fun r h => readsPins_plainControl (left (left h))) pins),
    lift (grantWhen_low (fun r h => readsPins_plainControl (left h)) pins),
    lift (grantWhen_low (fun r h => readsPins_plainControl (left h)) pins),
    lift (grantWhen_low (fun r h => readsPins_other (w := .ringBase) (word h) nofun nofun) pins),
    lift (grantWhen_low (fun r h => readsPins_other (w := .consumerIndex) (word h) nofun nofun) pins),
    lift (grantWhen_low (fun r h => readsPins_other (w := .deviceStatus) (word (left h)) nofun nofun) pins),
    lift (grantWhen_low (fun r h => readsPins_targets h rfl fun n hn => eq_of_beq hn) pins),
    lift (grantWhen_low (fun r h => readsPins_targets h rfl fun _ hn => absurd hn Bool.false_ne_true) pins),
    lift (grantWhen_low (fun r h => readsPins_targets h rfl fun _ hn => absurd hn Bool.false_ne_true) pins),
    lift (grantWhen_low (fun r h => readsPins_targets h rfl fun _ hn => absurd hn Bool.false_ne_true) pins),
    lift (grantWhen_low (fun r h => readsPins_targets h rfl fun _ hn => absurd hn Bool.false_ne_true) pins),
    lift (grantWhen_low (fun r h => readsPins_targets h rfl fun _ hn => absurd hn Bool.false_ne_true) pins),
    lift (grantWhen_low (fun r h => readsPins_targets h rfl fun _ hn => absurd hn Bool.false_ne_true) pins),
    lift (grantWhen_low (fun r h => readsPins_targets h rfl fun _ hn => absurd hn Bool.false_ne_true) pins),
    lift (grantWhen_low (fun r h => readsPins_targets h rfl fun _ hn => absurd hn Bool.false_ne_true) pins),
    lift (grantWhen_low (fun r h => readsPins_targets h rfl fun _ hn => absurd hn Bool.false_ne_true) pins),
    lift (grantWhen_low (fun r h => readsPins_targets h rfl fun _ hn => absurd hn Bool.false_ne_true) pins),
    lift (grantWhen_low (fun r h => readsPins_targets h rfl fun _ hn => absurd hn Bool.false_ne_true) pins),
    lift (grantWhen_low (fun r h => readsPins_commitTo h) pins),
    lift (grantWhen_low (fun r h => readsPins_meaning h) pins),
    lift (grantWhen_low (fun r h => readsPins_commitTo h) pins),
    lift (grantWhen_low (fun r h => readsPins_meaning h) pins),
    lift (grantWhen_low (fun r h => readsPins_meaning h) pins),
    lift (grantWhen_same ..), lift (grantWhen_same ..)⟩

end Sys2Proof.Machine
end

section
/-! SUPPORT. The two edges of RESETn and the restart (R16, R17, R32 to R35), and the host port's arrivals, completions and
releases (R1 to R15). -/

namespace Sys2Proof.Machine

/-! ### Lanes after a reset -/

@[simp] theorem State.reset_lane (n : LaneId) : State.reset.lane n = Lane.reset := by
  simp [State.lane, State.reset]

@[simp] theorem State.reset_chan (c : ChanId) : State.reset.chan c = Channel.reset := by
  simp [State.chan, State.reset]

/-- With every lane in MIRROR and no line in its DIR mask the part drives nothing (R156). -/
theorem State.driven_eq_zero {s : State} (h : ∀ n, (s.lane n).mode = .mirror ∧ (s.lane n).dir = 0) (n : LaneId) :
    s.driven n = 0 := by
  have hlending : s.lending n = false := by simp [State.lending, (h (mate n)).1]
  unfold State.driven
  simp only [(h n).1, (h n).2, hlending, Bool.false_eq_true, if_false]

/-- Where the part drives no line, every pin carries the outside level (R159). -/
theorem State.liveLines_of_inputs {s : State} {n : LaneId} (h : s.driven n = 0) (pins : Pins) :
    s.liveLines pins n = (pins.lane n).level := by
  unfold State.liveLines
  simp only [h, BitVec.ofNat_eq_ofNat, BitVec.zero_and, BitVec.and_zero, BitVec.zero_or, BitVec.not_zero,
    BitVec.and_allOnes]

/-- The lanes after a reset drive nothing. -/
theorem State.driven_of_reset {s : State} (h : ∀ n, s.lane n = Lane.reset) (n : LaneId) : s.driven n = 0 :=
  State.driven_eq_zero (fun m => by rw [h m]; exact ⟨rfl, rfl⟩) n

/-! ### Setup words after a reset -/

/-- A part with the reset values in its lanes, channels, device block and notice unit reads the reset value of every setup
word (R35). -/
theorem State.setupReadWord_of_reset {s : State} (hlane : ∀ n, s.lane n = Lane.reset) (hchan : ∀ c, s.chan c = Channel.reset)
    (hdev : s.dev = State.reset.dev) (hnu : s.nu = State.reset.nu) (pins : Pins) (w : SetupWord) :
    s.setupReadWord pins w =
      (match w with
        | .deviceControl => 0x00040000
        | .laneMirror n => (pins.lane n).level.setWidth 32
        | _ => 0) := by
  cases w with
  | deviceControl =>
    change s.dev.control = 0x00040000
    rw [hdev]
    decide
  | ringBase =>
    change place 0 s.dev.ringBase = 0
    rw [hdev]
    decide
  | consumerIndex =>
    change place 0 s.nu.cons = 0
    rw [hnu]
    decide
  | producerIndex =>
    change place 0 s.nu.prod = 0
    rw [hnu]
    decide
  | deviceStatus =>
    change s.deviceStatusWord = 0
    unfold State.deviceStatusWord State.irq
    rw [hdev, hnu]
    decide
  | laneMirror n =>
    change place 0 (s.liveLines pins n) = (pins.lane n).level.setWidth 32
    rw [State.liveLines_of_inputs (State.driven_of_reset hlane n)]
    exact BitVec.shiftLeft_zero _
  | laneMode n =>
    change (s.lane n).modeWord = 0
    rw [hlane]
    decide
  | laneTimer n =>
    change (s.lane n).timerWord = 0
    rw [hlane]
    decide
  | laneStatus n =>
    change (s.lane n).statusWord = 0
    rw [hlane]
    decide
  | chanControl c =>
    change (s.chan c).control = 0
    rw [hchan]
    decide
  | chanBase c =>
    change place 0 (s.chan c).base = 0
    rw [hchan]
    decide
  | chanGeometry c =>
    change (s.chan c).geometry = 0
    rw [hchan]
    decide
  | chanStall c =>
    change place 0 (s.chan c).stallLimit = 0
    rw [hchan]
    decide
  | enableSet c =>
    change place 0 (s.chan c).enables = 0
    rw [hchan]
    decide
  | enableClear c =>
    change place 0 (s.chan c).enables = 0
    rw [hchan]
    decide
  | chanStatus c =>
    change (s.chan c).statusWord = 0
    rw [hchan]
    decide
  | chanCounts c =>
    change (s.chan c).countsWord = 0
    rw [hchan]
    decide
  | unused => rfl

theorem State.resetBlocks_lane (s : State) (n : LaneId) : s.resetBlocks.lane n = Lane.reset := State.reset_lane n

/-- Settles O3: the whole state is the reset state but for the fields that stay, and every setup word is read from reset
records. -/
theorem hardwareResetResetsEveryBlock : Obligations.HardwareResetResetsEveryBlock := by
  intro s sbase bypass
  refine ⟨{ s.resetBlocks with resetn := false, sbase := sbase, bypass := bypass }, rfl, rfl, rfl, rfl, rfl, rfl,
    fun n => State.driven_of_reset s.resetBlocks_lane n, fun pins w => ?_⟩
  exact State.setupReadWord_of_reset s.resetBlocks_lane s.resetBlocks_chan rfl rfl pins w

/-- A pass whose every step changes the lanes alone changes the lanes alone. -/
theorem foldl_lanes {ι : Type} {f : State → ι → State} (h : ∀ s i, f s i = { s with lanes := (f s i).lanes }) (l : List ι)
    (s : State) : l.foldl f s = { s with lanes := (l.foldl f s).lanes } := by
  induction l generalizing s with
  | nil => rfl
  | cons i l ih => rw [List.foldl_cons, ih, h]

/-- Only the lanes change when the levels are sampled. -/
theorem State.sampleAll_eq (s : State) (pins : Pins) : s.sampleAll pins = { s with lanes := (s.sampleAll pins).lanes } :=
  foldl_lanes (fun _ _ => rfl) _ s

/-- With no strobe asserted the host port sees nothing. -/
theorem State.strobe_none {b : HostBus} (hrd : b.rd = false) (hwr : b.wr = false) (s : State) (pins : Pins) :
    s.strobe b pins = s := by
  unfold State.strobe
  rw [if_pos]
  simp [hrd, hwr]

/-- Settles O4: the levels are sampled on the straps' state, and the strobe then arrives as HOST_ACCESS_ARRIVAL has it. -/
theorem resetReleaseTakesAStrobeAsAnArrival : Obligations.ResetReleaseTakesAStrobeAsAnArrival := by
  intro s sbase bypass bus pins
  refine ⟨fun h => ?_, fun h => ?_⟩
  · have hexec : exec (.resetRelease sbase bypass bus pins) s = .next ((State.sampleAll
        { s with resetn := true, sbase := sbase, bypass := bypass } pins).strobe bus pins) := by
      change Host.Outcome.next (if s.resetn = true then s else _) = _
      rw [h]
      rfl
    refine ⟨State.sampleAll { s with resetn := true, sbase := sbase, bypass := bypass } pins,
      fun n => State.sampleAll_lane _ pins n, State.sampleAll_eq .., fun hrd hwr => ?_, fun _ => hexec⟩
    rw [hexec, State.strobe_none hrd hwr]
  · change Host.Outcome.next (if s.resetn = true then s else _) = _
    rw [if_pos h]

/-- The lanes of a restarted part: reset values, with the levels of the pins sampled (R32, R155). -/
theorem State.restartBlocks_lane (s : State) (pins : Pins) (n : LaneId) :
    (s.restartBlocks pins).lane n =
      { Lane.reset with mir := { MirrorState.reset with sampled := (pins.lane n).level } } := by
  have hlane (m : LaneId) : (s.resetBlocks.withHost { s.host with answer := none }).lane m = Lane.reset :=
    s.resetBlocks_lane m
  unfold State.restartBlocks
  rw [State.sampleAll_lane, hlane, State.liveLines_of_inputs (State.driven_of_reset hlane n)]
  rfl

@[simp] theorem State.memoryCycle_lane (s : State) (r : HostRecord) (cyc : HostCycle) (n : LaneId) :
    (s.memoryCycle r cyc).lane n = s.lane n := by
  rw [State.memoryCycle, State.withHost_lane, State.withArb_lane]

/-- A restart leaves the reset state but for the fields that stay and the sampled levels (R17, R32, R34). -/
theorem State.restartBlocks_eq (s : State) (pins : Pins) : s.restartBlocks pins = { State.reset with
    pending := s.pending, resetn := s.resetn, sbase := s.sbase, bypass := s.bypass, now := s.now,
    freeCount := s.freeCount, host := { s.host with answer := none }, lanes := (s.restartBlocks pins).lanes } :=
  State.sampleAll_eq _ pins

/-- Settles O5: the grant's write restarts the part, and its memory cycle starts from the reset arbiter. -/
theorem restartResetsEveryBlock : Obligations.RestartResetsEveryBlock := by
  intro s r pins hg hw hbe hdata
  have hrestart : carriesRestart r.be r.data = true := by rw [carriesRestart, hbe, hdata]; rfl
  have hwrite : r.write = true := by
    unfold SetupWrite HostRecord.setupTarget at hw
    split at hw
    · next h => exact h
    · cases hw
  have hw' : r.setupTarget = some .deviceControl := hw
  refine ⟨(s.countPatience.restartBlocks pins).memoryCycle r HostCycle.bare, ?_,
    fun n => ?_, ?_⟩
  · change Host.Outcome.next (s.grantWhen _ _) = _
    rw [grantWhen_of_granted hg (by simp [hw', hrestart]), State.grantAccess_setup hw]
    change Host.Outcome.next ((s.countPatience.takeControl pins r.be r.data).memoryCycle r HostCycle.bare) = _
    rw [State.takeControl, if_pos hrestart]
  · rw [State.memoryCycle_lane, State.restartBlocks_lane]
  · rw [State.restartBlocks_eq]
    generalize (s.countPatience.restartBlocks pins).lanes = lanes
    rw [State.countPatience_eq]
    simp only [State.memoryCycle, State.withHost, State.withArb, HostRecord.access, hwrite, if_true]
    rfl

/-! ### Arrivals (R1, R4, R5, R15) -/

/-- HA[23:2] times 4 is the byte address (R1). -/
theorem busAddr_toNat (b : HostBus) : (busAddr b).toNat = 4 * b.wordAddr.toNat := by
  change (b.wordAddr ++ 0#2 : BitVec (22 + 2)).toNat = _
  rw [BitVec.toNat_append, BitVec.toNat_ofNat, Nat.zero_mod, Nat.or_zero, Nat.shiftLeft_eq, Nat.mul_comm]

/-- What the host port makes of a strobe in HP_IDLE with both strobes released before (R1). -/
theorem State.strobe_arrive {s : State} {b : HostBus} (hresetn : s.resetn = true) (hidle : s.host.port = .idle)
    (hrd : s.host.rdStrobe = false) (hwr : s.host.wrStrobe = false) (hb : b.rd = true ∨ b.wr = true) (pins : Pins) :
    s.strobe b pins = s.noting (s.arrive b pins) := by
  unfold State.strobe
  rw [if_neg (by rcases hb with h | h <;> simp [hresetn, h]), hidle]
  simp [HostSide.strobesReleased, hrd, hwr]

/-- An arrival of one strobe that is not a setup read waits for a grant (R1, R5). -/
theorem State.arrive_waits {s : State} {b : HostBus} (hb : b.rd = !b.wr)
    (hread : b.rd = true → ∀ off, s.classify (4 * b.wordAddr.toNat) ≠ .setup off) (pins : Pins) :
    s.arrive b pins = (s.seeStrobes b).withHost { (s.seeStrobes b).host with
      port := .waiting (s.recordOf b), answer := none } := by
  unfold State.arrive
  dsimp only
  rw [if_neg (by rw [hb]; cases b.wr <;> simp)]
  split
  · next off hcls hwrite =>
    have hwr : b.wr = false := hwrite
    refine absurd ?_ (hread (by rw [hb, hwr]; rfl) off)
    rw [← busAddr_toNat]
    exact hcls
  · rfl

/-- Settles O6: the strobe arrives in HP_IDLE, with the record of R1, and waits. -/
theorem arrivalIsRecordedAndWaits : Obligations.ArrivalIsRecordedAndWaits := by
  intro s b pins hresetn hidle hrd hwr hb hread
  have hone : b.rd = true ∨ b.wr = true := by rw [hb]; cases b.wr <;> simp
  change Host.Outcome.next (s.strobe b pins) = _
  rw [State.strobe_arrive hresetn hidle hrd hwr hone, State.arrive_waits hb hread]
  simp only [State.seeStrobes, State.withHost, State.recordOf, hrd, hwr, Bool.false_or, busAddr_toNat]
  rfl

/-- A setup read is answered at its arrival with the word of its offset (R4). -/
theorem State.arrive_setupRead {s : State} {b : HostBus} (hwr : b.wr = false) {off : Nat}
    (hcls : s.classify (4 * b.wordAddr.toNat) = .setup off) (pins : Pins) :
    s.arrive b pins = ((s.seeStrobes b).setupReadEffect (setupWordAt off)).endAccess (s.recordOf b) false
      (some (s.setupReadWord pins (setupWordAt off))) := by
  have hclsr : (s.recordOf b).cls = .setup off := by
    rw [← hcls, ← busAddr_toNat]
    rfl
  unfold State.arrive
  dsimp only
  rw [if_neg (by rw [hwr]; simp), hclsr, show (s.recordOf b).write = false from hwr]

/-- The answer of a setup read, and the change-held flag that a mirror word's read clears (R4, R159). -/
theorem State.strobe_setupRead {s : State} {b : HostBus} (hresetn : s.resetn = true) (hidle : s.host.port = .idle)
    (hrdS : s.host.rdStrobe = false) (hwrS : s.host.wrStrobe = false) (hrd : b.rd = true) (hwr : b.wr = false) {off : Nat}
    (hcls : s.classify (4 * b.wordAddr.toNat) = .setup off) (pins : Pins) :
    s.strobe b pins = { s.setupReadEffect (setupWordAt off) with host :=
      ⟨.idle, some ⟨true, false, false, some (s.setupReadWord pins (setupWordAt off))⟩, true, false⟩ } := by
  have hone : b.rd = true ∨ b.wr = true := .inl hrd
  have hwrite : (s.recordOf b).write = false := hwr
  have harrive : s.arrive b pins = { s.setupReadEffect (setupWordAt off) with host :=
      ⟨.idle, some ⟨true, false, false, some (s.setupReadWord pins (setupWordAt off))⟩, true, false⟩ } := by
    rw [State.arrive_setupRead hwr hcls]
    unfold State.setupReadEffect
    split
    · simp [State.endAccess, State.withHost, State.seeStrobes, State.setLane, State.lane, hwrite, hrd, hwr, hrdS, hwrS]
    · simp [State.endAccess, State.withHost, State.seeStrobes, hwrite, hrd, hwr, hrdS, hwrS]
  rw [State.strobe_arrive hresetn hidle hrdS hwrS hone, harrive]
  apply State.noting_of_same
  intro who
  have hlane : ∀ n, ((s.setupReadEffect (setupWordAt off)).lane n).snd = (s.lane n).snd ∧
      ((s.setupReadEffect (setupWordAt off)).lane n).rcv = (s.lane n).rcv := by
    intro n
    unfold State.setupReadEffect
    split
    · rw [State.lane_setLane]
      split
      · next h => subst h; exact ⟨rfl, rfl⟩
      · exact ⟨rfl, rfl⟩
    · exact ⟨rfl, rfl⟩
  have hnu : (s.setupReadEffect (setupWordAt off)).nu = s.nu := by
    unfold State.setupReadEffect
    split <;> rfl
  cases who with
  | host => simp only [State.presented, hidle]
  | notice => simp only [State.presented, hnu]
  | send n =>
    change (((s.setupReadEffect (setupWordAt off)).lane n).snd.mover == .waiting) = _
    rw [(hlane n).1]
    rfl
  | recv n =>
    change (((s.setupReadEffect (setupWordAt off)).lane n).rcv.mover == .waiting) = _
    rw [(hlane n).2]
    rfl

/-- Settles O8: the read's answer, with the effect that only a mirror word's read has. -/
theorem setupReadIsAnsweredAtItsArrival : Obligations.SetupReadIsAnsweredAtItsArrival := by
  intro s b pins off hresetn hidle hrdS hwrS hrd hwr hcls
  have hexec : exec (.hostAccessArrival b pins) s = .next _ :=
    congrArg Host.Outcome.next (State.strobe_setupRead hresetn hidle hrdS hwrS hrd hwr hcls pins)
  refine ⟨fun hn => ?_, fun n hn => ?_⟩
  · rw [hexec]
    unfold State.setupReadEffect
    split
    · next n hw => exact absurd hw (hn n)
    · rfl
  · rw [hexec, hn]
    rfl

/-- Settles O11, by the states of the host port. -/
theorem bothStrobesAreRefused : Obligations.BothStrobesAreRefused := by
  intro s b pins hresetn
  refine ⟨fun hidle hrdS hwrS hrd hwr => ?_, fun hbusy => ?_, fun r ⟨_, herr, overlay, again⟩ hport habandoned => ?_⟩
  · change Host.Outcome.next (s.strobe b pins) = _
    have harrive : s.arrive b pins = { s with host := ⟨.idle, some ⟨true, true, true, none⟩, true, true⟩ } := by
      simp [State.arrive, State.seeStrobes, State.withHost, hrd, hwr, hrdS, hwrS, hidle]
    rw [State.strobe_arrive hresetn hidle hrdS hwrS (.inl hrd), harrive]
    congr 1
    apply State.noting_of_same
    intro who
    cases who with
    | host => simp only [State.presented, hidle]
    | _ => rfl
  · change Host.Outcome.next (s.strobe b pins) = .next (s.seeStrobes b)
    congr 1
    unfold State.strobe
    split
    · next hnone =>
      have hb : b.rd = false ∧ b.wr = false := by simpa [hresetn] using hnone
      simp [State.seeStrobes, State.withHost, hb.1, hb.2]
    · rcases hbusy with ⟨r, h | h | ⟨cyc, h, hlive⟩⟩ | ⟨h, hstrobe⟩
      · simp only [h]
      · simp only [h]
      · simp only [h, hlive, Bool.false_eq_true, if_false]
      · have hheld : s.host.strobesReleased = false := by
          rcases hstrobe with hstrobe | hstrobe <;> simp [HostSide.strobesReleased, hstrobe]
        simp only [h, hheld, Bool.false_eq_true, if_false]
  · change Host.Outcome.next (s.strobe b pins) = _
    dsimp only at habandoned
    subst habandoned
    congr 1
    unfold State.strobe
    split
    · next hnone =>
      have hb : b.rd = false ∧ b.wr = false := by simpa [hresetn] using hnone
      cases hwrite : r.write <;> simp [hb.1, hb.2, ← hport]
    · simp only [hport, if_true]
      unfold State.strobeAgain
      cases again with
      | some a => simp [State.seeStrobes, State.withHost, hport]
      | none =>
        cases hown : r.ownStrobe b with
        | true =>
          have hown' : (if r.write = true then b.wr else b.rd) = true := hown
          simp [State.seeStrobes, State.withHost, hown']
        | false =>
          have hown' : (if r.write = true then b.wr else b.rd) = false := hown
          simp [State.seeStrobes, State.withHost, hport, hown']

end Sys2Proof.Machine
end

section
/-! SUPPORT. The classes of accesses (R2), the mirror word's read (R159), and the host port's completions and releases (R12, R14,
R15). -/

namespace Sys2Proof.Machine

/-! ### Classification (R2) -/

theorem mem_allChans (c : ChanId) : c ∈ allChans := by revert c; decide

theorem mem_allLanes (n : LaneId) : n ∈ allLanes := by revert n; decide

@[simp] theorem Channel.running_iff (ch : Channel) : ch.running = true ↔ ch.state = .running := beq_iff_eq

theorem Channel.size_pos (ch : Channel) : 0 < ch.size := by unfold Channel.size; positivity

/-- SIZE is a multiple of 16, so of 4 (R37). -/
theorem Channel.size_dvd (ch : Channel) : 4 ∣ ch.size := ⟨4 * 2 ^ ch.sizeCode.toNat, by unfold Channel.size; ring⟩

theorem Extent.contains_iff (e : Extent) (a : Nat) : e.contains a = true ↔ e.first ≤ a ∧ a < e.stop := decide_eq_true_iff

/-- Extents that share an address overlap (R45). -/
theorem Extent.overlaps_of_contains {e f : Extent} {a : Nat} (he : e.contains a = true) (hf : f.contains a = true) :
    e.overlaps f = true := by
  rw [Extent.contains_iff] at he hf
  unfold Extent.overlaps
  rw [decide_eq_true_iff]
  omega

/-- Overlapping is symmetric (R45). -/
theorem Extent.overlaps_comm (e f : Extent) : e.overlaps f = f.overlaps e := by
  unfold Extent.overlaps
  rw [decide_eq_decide]
  omega

/-- The owner of an address is a RUNNING channel whose array holds it. -/
theorem State.owner_some {s : State} {a : Nat} {c : ChanId} (h : s.owner a = some c) :
    (s.chan c).state = .running ∧ (s.chan c).extent.contains a = true := by
  have := List.find?_some h
  simpa using this

theorem State.owner_none {s : State} {a : Nat} (h : ∀ c, (s.chan c).state = .running → (s.chan c).extent.contains a = false) :
    s.owner a = none := by
  unfold State.owner
  rw [List.find?_eq_none]
  intro c _ hc
  rw [Bool.and_eq_true, Channel.running_iff] at hc
  rw [h c hc.1] at hc
  exact absurd hc.2 Bool.false_ne_true

/-- With arrays that keep apart, a RUNNING array that holds an address is its owner. -/
theorem State.owner_eq {s : State} {a : Nat} {c : ChanId} (hlaw : ChannelLaw s) (hrun : (s.chan c).state = .running)
    (hc : (s.chan c).extent.contains a = true) : s.owner a = some c := by
  cases ho : s.owner a with
  | none =>
    unfold State.owner at ho
    rw [List.find?_eq_none] at ho
    exact absurd (Bool.and_eq_true_iff.mpr ⟨(Channel.running_iff _).mpr hrun, hc⟩) (ho c (mem_allChans c))
  | some d =>
    obtain ⟨hd, hcd⟩ := State.owner_some ho
    by_contra hne
    have hdc : d ≠ c := fun h => hne (by rw [h])
    obtain ⟨_, _, _, _, _, _, _, _, _, _, hapart⟩ := hlaw c hrun
    exact Bool.false_ne_true ((hapart d hdc hd).1.symm.trans (Extent.overlaps_of_contains hc hcd))

/-- An address of the setup area is its offset there; any other one has its owner's slot, or none (R2). -/
theorem State.classify_owner {s : State} {a : Nat} (hbypass : s.bypass = false) (hsetup : s.setupExtent.contains a = false) :
    s.classify a = (match s.owner a with
      | some c =>
        let k := (a - (s.chan c).base.toNat) / (s.chan c).size
        let w := (a - (s.chan c).base.toNat - k * (s.chan c).size) / 4
        if w = 0 then .slotHeader c k else .slotPayload c k w
      | none => .plain) := by
  unfold State.classify
  rw [hbypass, hsetup]
  rfl

/-- Settles O7: the owner of an address is the one RUNNING array that holds it, and the slot and the word are the quotients by
SIZE and by 4. -/
theorem classFollowsTheAddress : Obligations.ClassFollowsTheAddress := by
  intro s a ha hlaw
  have hsetup : s.setupExtent.contains a = true ↔ s.setupBase ≤ a ∧ a ≤ s.setupBase + 0x1FF := by
    rw [Extent.contains_iff]
    unfold State.setupExtent
    dsimp only
    omega
  refine ⟨fun h => ?_, fun hbypass => ⟨fun hin => ?_, fun hout => ⟨fun c hrun hlo hhi => ?_, fun hnone => ?_⟩⟩⟩
  · unfold State.classify
    rw [if_pos h]
  · unfold State.classify
    rw [hbypass, hsetup.mpr hin]
    rfl
  · have hout' : s.setupExtent.contains a = false := Bool.eq_false_iff.mpr (hout ∘ hsetup.mp)
    obtain ⟨_, _, _, hcount, _⟩ := hlaw c hrun
    have hsize := (s.chan c).size_pos
    have hprod : 0 < (s.chan c).count.toNat * (s.chan c).size := Nat.mul_pos hcount hsize
    have hc : (s.chan c).extent.contains a = true := by
      rw [Extent.contains_iff]
      unfold Channel.extent
      dsimp only
      omega
    refine ⟨_, _, rfl, ?_, rfl, ?_, ?_⟩
    · rw [Nat.div_lt_iff_lt_mul hsize]
      omega
    · have hrest : a - (s.chan c).base.toNat - (a - (s.chan c).base.toNat) / (s.chan c).size * (s.chan c).size =
          (a - (s.chan c).base.toNat) % (s.chan c).size := by
        rw [Nat.mul_comm]
        exact Nat.sub_eq_of_eq_add (Nat.mod_add_div _ _).symm
      rw [hrest]
      exact Nat.div_lt_div_of_lt_of_dvd (s.chan c).size_dvd (Nat.mod_lt _ hsize)
    · rw [State.classify_owner hbypass hout', State.owner_eq hlaw hrun hc]
  · have hout' : s.setupExtent.contains a = false := Bool.eq_false_iff.mpr (hout ∘ hsetup.mp)
    rw [State.classify_owner hbypass hout', State.owner_none]
    intro c hrun
    rw [Bool.eq_false_iff]
    intro hc
    rw [Extent.contains_iff] at hc
    unfold Channel.extent at hc
    refine hnone c hrun ⟨hc.1, ?_⟩
    have := hc.2
    dsimp only at this
    omega

/-! ### The mirror word's read (R159) -/

theorem dataMask_bit : ∀ i < 11, dataMask.getLsbD i = decide (i < 8) := by decide

theorem lineC_bit : ∀ j < 3, ∀ i < 11, (lineC j).getLsbD i = decide (i = 8 + j) := by decide

theorem levelC_bit (j : Nat) (hj : j < 3) (b : Bool) (i : Nat) (hi : i < 11) :
    (levelC j b).getLsbD i = (decide (i = 8 + j) && b) := by
  unfold levelC
  cases b
  · simp
  · simp [lineC_bit j hj i hi]

/-- OFFER and MARK in the words of the claims (R91, R94). -/
theorem SendSide.offerLine_eq (x : SendSide) : x.offerLine = decide (∃ q ∈ x.cur, q.offering = true) := by
  unfold SendSide.offerLine
  cases x.cur <;> simp

theorem SendSide.markLine_eq (x : SendSide) :
    x.markLine = decide ((∃ q ∈ x.cur, q.offering = true ∧ q.offered = q.len) ∨ x.strobe ≠ none) := by
  unfold SendSide.markLine
  cases x.cur <;> cases x.strobe <;> simp [beq_eq_decide]

/-- ROOM of a DUPLEX lane is asserted in T_IN with place in the buffer (R96). -/
theorem Lane.room_duplex {l : Lane} (h : l.mode = .duplex) :
    l.room = decide (l.turn.turn = .inn ∧ l.rcv.rx.length < 16) := by
  simp [Lane.room, Lane.takesPuts, h, beq_eq_decide, Bool.decide_and]

/-- Where the odd lane lends its control lines (R87). -/
theorem State.lending_eq (s : State) (n : LaneId) :
    s.lending n = decide (oddLane n = true ∧ (s.lane (mate n)).mode = .duplex) := by
  simp [State.lending, beq_eq_decide, Bool.decide_and]

/-- The lines a lane drives outward: data, OFFER and MARK (R86). -/
theorem outward_bit (x : SendSide) (i : Nat) (hi : i < 11) :
    (if i < 8 then some (x.data.getLsbD i)
      else if i = 8 then some (decide (∃ q ∈ x.cur, q.offering = true))
      else if i = 10 then
        some (decide ((∃ q ∈ x.cur, q.offering = true ∧ q.offered = q.len) ∨ x.strobe ≠ none))
      else none) =
    (if (dataMask ||| lineC 0 ||| lineC 2).getLsbD i = true then
      some ((x.data.setWidth 11 ||| levelC 0 x.offerLine ||| levelC 2 x.markLine).getLsbD i) else none) := by
  simp only [BitVec.getLsbD_or, BitVec.getLsbD_setWidth, dataMask_bit i hi, lineC_bit 0 (by omega) i hi,
    lineC_bit 2 (by omega) i hi, levelC_bit 0 (by omega) _ i hi, levelC_bit 2 (by omega) _ i hi, ← SendSide.offerLine_eq,
    ← SendSide.markLine_eq]
  by_cases h8 : i < 8
  · have h1 : i ≠ 8 := by omega
    have h2 : i ≠ 10 := by omega
    simp [h8, h1, h2, hi]
  · have hz : x.data.getLsbD i = false := BitVec.getLsbD_of_ge _ _ (by omega)
    by_cases h1 : i = 8
    · simp [h1, BitVec.getLsbD_of_ge]
    · by_cases h2 : i = 10
      · simp [h2, BitVec.getLsbD_of_ge]
      · simp [h8, h1, h2]

/-- The part's own level of a line, where it drives the line (R86, R87, R156). -/
theorem State.partLevel_eq (s : State) (n : LaneId) (i : Nat) (hi : i < 11) :
    s.partLevel n i = if (s.driven n).getLsbD i = true then some ((s.driveLevel n).getLsbD i) else none := by
  unfold State.partLevel State.driven State.driveLevel
  dsimp only
  have hmodes : (s.lane n).mode = .send ∨ (s.lane n).mode = .receive ∨ (s.lane n).mode = .duplex ∨
      (s.lane n).mode = .mirror := by cases (s.lane n).mode <;> simp
  rcases hmodes with hmode | hmode | hmode | hmode <;> simp only [hmode]
  · exact outward_bit (s.lane n).snd i hi
  · have hroom : (s.lane n).room = decide ((s.lane n).rcv.rx.length < 16) := by
      simp [Lane.room, Lane.takesPuts, hmode]
    simp only [lineC_bit 1 (by omega) i hi, levelC_bit 1 (by omega) _ i hi, hroom]
    by_cases h9 : i = 9 <;> simp [h9]
  · by_cases hturn : (s.lane n).turn.turn = .out
    · simp only [hturn, or_true, if_true]
      exact outward_bit (s.lane n).snd i hi
    · simp only [hturn, or_false, if_false]
      by_cases h8 : i = 8
      · have hz : (s.lane n).snd.data.getLsbD 8 = false := BitVec.getLsbD_of_ge _ _ (by omega)
        simp only [h8, lineC_bit 0 (by omega) 8 (by omega), levelC_bit 0 (by omega) _ 8 (by omega),
          levelC_bit 2 (by omega) _ 8 (by omega), BitVec.getLsbD_or, BitVec.getLsbD_setWidth, hz, SendSide.offerLine_eq]
        simp
      · simp [h8, lineC_bit 0 (by omega) i hi]
  · rw [State.lending_eq]
    by_cases hlent : oddLane n = true ∧ (s.lane (mate n)).mode = .duplex
    · simp only [hlent, true_and, decide_true, and_self, if_true, BitVec.getLsbD_or, BitVec.getLsbD_and, dataMask_bit i hi,
        lineC_bit 1 (by omega) i hi, levelC_bit 1 (by omega) _ i hi, Lane.room_duplex hlent.2]
      by_cases h8 : i < 8
      · have h9 : i ≠ 9 := by omega
        simp [h8, h9, Nat.not_le.mpr h8]
      · by_cases h9 : i = 9
        · simp [h9]
        · simp [h8, h9, Nat.not_lt.mp h8]
    · simp only [hlent, false_and, if_false, decide_false, Bool.false_eq_true]

/-- One bit of the live lines (R156, R159). -/
theorem State.liveLines_bit (s : State) (pins : Pins) (n : LaneId) (i : Nat) (hi : i < 11) :
    (s.liveLines pins n).getLsbD i =
      if (s.driven n).getLsbD i = true ∧ (pins.lane n).contended.getLsbD i = false then (s.driveLevel n).getLsbD i
      else (pins.lane n).level.getLsbD i := by
  unfold State.liveLines
  simp only [BitVec.getLsbD_or, BitVec.getLsbD_and, BitVec.getLsbD_not, hi, decide_true, Bool.true_and]
  cases (s.driven n).getLsbD i <;> cases (pins.lane n).contended.getLsbD i <;> simp

/-- The host's lines for the mirror word's read name its address (R159). -/
theorem State.mirrorReadBus_addr (s : State) (n : LaneId) (be : Enables) :
    4 * (s.mirrorReadBus n be).wordAddr.toNat = s.setupBase + mirrorWordOffset n := by
  have hsbase := s.sbase.isLt
  have hn := n.isLt
  unfold State.mirrorReadBus mirrorWordOffset State.setupBase
  simp only [BitVec.toNat_ofNat]
  omega

/-- The mirror word stands at its offset in the setup area (11.1). -/
theorem setupWordAt_mirror (n : LaneId) : setupWordAt (mirrorWordOffset n) = .laneMirror n := by revert n; decide

/-- Out of bypass the address of a mirror word is in the setup area (R2). -/
theorem State.classify_mirror {s : State} (h : s.bypass = false) (n : LaneId) :
    s.classify (s.setupBase + mirrorWordOffset n) = .setup (mirrorWordOffset n) := by
  have hn := n.isLt
  have hin : s.setupExtent.contains (s.setupBase + mirrorWordOffset n) = true := by
    rw [Extent.contains_iff]
    unfold State.setupExtent mirrorWordOffset
    dsimp only
    omega
  unfold State.classify
  rw [h, hin, Nat.add_sub_cancel_left]
  rfl

/-- Settles O10: the read's answer is the live lines, whose bits are the part's own levels where it drives a line alone; in
bypass the same lines are an arrival that waits. -/
theorem mirrorReadGivesLiveLinesAndClearsTheFlag : Obligations.MirrorReadGivesLiveLinesAndClearsTheFlag := by
  intro s n be pins hresetn hidle hrdS hwrS
  refine ⟨fun hbypass => ⟨s.liveLines pins n, ?_, fun i hi => ?_⟩, fun hbypass => ?_⟩
  · have hcls : s.classify (4 * (s.mirrorReadBus n be).wordAddr.toNat) = .setup (mirrorWordOffset n) := by
      rw [State.mirrorReadBus_addr, State.classify_mirror hbypass]
    change Host.Outcome.next (s.strobe (s.mirrorReadBus n be) pins) = _
    rw [State.strobe_setupRead hresetn hidle hrdS hwrS rfl rfl hcls, setupWordAt_mirror]
    have hword : s.setupReadWord pins (.laneMirror n) = (s.liveLines pins n).setWidth 32 := BitVec.shiftLeft_zero _
    rw [hword]
    rfl
  · rw [State.liveLines_bit s pins n i hi, State.partLevel_eq s n i hi]
    cases (s.driven n).getLsbD i <;> cases (pins.lane n).contended.getLsbD i <;> simp
  · have hplain (a : Nat) : s.classify a = .plain := by
      unfold State.classify
      rw [if_pos hbypass]
    refine ⟨busAddr (s.mirrorReadBus n be), ?_, ?_⟩
    · rw [busAddr_toNat, State.mirrorReadBus_addr, mirrorWordOffset, Nat.add_assoc]
    · have harrival := arrivalIsRecordedAndWaits s (s.mirrorReadBus n be) pins hresetn hidle hrdS hwrS rfl
        (fun _ off => by rw [hplain]; nofun)
      rw [hplain] at harrival
      exact harrival

/-! ### Completions (R11, R12, R14) -/

theorem Overlay.stateMask_bit : ∀ i < 32, (0xF8FFFFFF : Word).getLsbD i = decide (i < 24 ∨ 27 ≤ i) := by decide

theorem Overlay.seqMask_bit : ∀ i < 32, (0xFF00FFFF : Word).getLsbD i = decide (i < 16 ∨ 24 ≤ i) := by decide

/-- One bit of a header read with the overlay's snapshot (R11, R79). -/
theorem Overlay.apply_bit (o : Overlay) (w : Word) (i : Nat) (hi : i < 32) :
    (o.apply w).getLsbD i =
      if 24 ≤ i ∧ i < 27 then o.state.code.getLsbD (i - 24)
      else if 16 ≤ i ∧ i < 24 then (o.seq.getD (field w 16 8)).getLsbD (i - 16)
      else w.getLsbD i := by
  have hstate : ((w &&& 0xF8FFFFFF) ||| place 24 o.state.code).getLsbD i =
      if 24 ≤ i ∧ i < 27 then o.state.code.getLsbD (i - 24) else w.getLsbD i := by
    rw [BitVec.getLsbD_or, BitVec.getLsbD_and, Overlay.stateMask_bit i hi, place_bit]
    by_cases h : 24 ≤ i ∧ i < 27
    · simp [h, hi, show ¬(i < 24 ∨ 27 ≤ i) by omega]
    · have hz : (decide (24 ≤ i) && o.state.code.getLsbD (i - 24)) = false := by
        by_cases h24 : 24 ≤ i
        · rw [BitVec.getLsbD_of_ge _ _ (by omega), Bool.and_false]
        · simp [h24]
      simp [h, hi, hz, show i < 24 ∨ 27 ≤ i by omega]
  unfold Overlay.apply
  dsimp only
  cases o.seq with
  | none =>
    rw [hstate, Option.getD_none, field_bit]
    by_cases h16 : 16 ≤ i ∧ i < 24
    · simp [h16, show ¬(24 ≤ i ∧ i < 27) by omega, show i - 16 < 8 by omega, show 16 + (i - 16) = i by omega]
    · simp [h16]
  | some q =>
    rw [Option.getD_some]
    dsimp only
    rw [BitVec.getLsbD_or, BitVec.getLsbD_and, hstate, Overlay.seqMask_bit i hi, place_bit]
    by_cases h16 : 16 ≤ i ∧ i < 24
    · simp [h16, hi, show ¬(i < 16 ∨ 24 ≤ i) by omega, show ¬(24 ≤ i ∧ i < 27) by omega]
    · have hz : (decide (16 ≤ i) && q.getLsbD (i - 16)) = false := by
        by_cases h : 16 ≤ i
        · rw [BitVec.getLsbD_of_ge _ _ (by omega), Bool.and_false]
        · simp [h]
      simp [h16, hi, hz, show i < 16 ∨ 24 ≤ i by omega]

/-- The fields of a header read with the overlay's snapshot (R11, R79). -/
theorem Overlay.apply_fields (o : Overlay) (w : Word) :
    (o.apply w).extractLsb' 24 3 = o.state.code ∧ (o.apply w).extractLsb' 16 8 = o.seq.getD (w.extractLsb' 16 8) ∧
      (o.apply w).extractLsb' 0 16 = w.extractLsb' 0 16 ∧ (o.apply w).extractLsb' 27 5 = w.extractLsb' 27 5 := by
  refine ⟨?_, ?_, ?_, ?_⟩ <;> apply BitVec.eq_of_getLsbD_eq <;> intro i hi
  · rw [BitVec.getLsbD_extractLsb', Overlay.apply_bit o w _ (by omega)]
    simp [hi, show 24 + i < 27 by omega]
  · rw [BitVec.getLsbD_extractLsb', Overlay.apply_bit o w _ (by omega)]
    simp [hi, show ¬24 ≤ 16 + i by omega, show 16 + i < 24 by omega, field]
  · rw [BitVec.getLsbD_extractLsb', BitVec.getLsbD_extractLsb', Overlay.apply_bit o w _ (by omega)]
    simp [show ¬24 ≤ i by omega, show ¬16 ≤ i by omega]
  · rw [BitVec.getLsbD_extractLsb', BitVec.getLsbD_extractLsb', Overlay.apply_bit o w _ (by omega)]
    simp [show ¬27 + i < 24 by omega]

/-- The side effect of a setup read leaves the arbiter. -/
theorem State.setupReadEffect_arb (s : State) (w : SetupWord) : (s.setupReadEffect w).arb = s.arb := by
  unfold State.setupReadEffect
  split <;> rfl

/-- An arrival leaves the arbiter. -/
theorem State.arrive_arb (s : State) (b : HostBus) (pins : Pins) : (s.arrive b pins).arb = s.arb := by
  unfold State.arrive
  dsimp only
  split
  · rfl
  · split
    · exact State.setupReadEffect_arb ..
    · rfl

/-- Keeping what a decision was among changes the arbiter alone. -/
theorem State.noting_withArb (s t : State) : { s.noting t with arb := t.arb } = t := by
  rw [State.noting_eq]
  rfl

/-- Settles O13: a live cycle's answer; over an abandoned one the strobe that waited arrives as HOST_ACCESS_ARRIVAL has it,
but for the decision that the freed port brings. -/
theorem hostCompletionEndsTheAccess : Obligations.HostCompletionEndsTheAccess := by
  intro s r cyc data merr hport
  refine ⟨fun hlive => ⟨if r.write then none else some (cyc.readWord data.word), ?_, fun hwrite => by rw [hwrite]; rfl,
    fun hwrite => ⟨cyc.readWord data.word, by rw [hwrite]; rfl, fun ho => ?_, fun o ho => ?_⟩⟩, ?_⟩
  · change Host.Outcome.next (match s.host.port with
      | .access r cyc => _
      | _ => s) = _
    rw [hport]
    dsimp only
    rw [hlive]
    rfl
  · unfold HostCycle.readWord
    rw [ho]
  · unfold HostCycle.readWord
    rw [ho]
    exact o.apply_fields data.word
  · rintro habandoned t rfl
    have hexec : exec (.hostAccessCompletion data merr) s = .next (match cyc.again with
        | some b => (s.freePort.withHost { s.host with port := .idle }).arriveAgain r b data.pins
        | none => s.freePort.withHost { s.host with port := .idle }) := by
      change Host.Outcome.next (match s.host.port with
        | .access r cyc => _
        | _ => s) = _
      rw [hport]
      dsimp only
      rw [habandoned]
      rfl
    rw [hexec]
    refine ⟨fun hnone => ?_, fun b hagain hother hresetn => ?_⟩
    · cases hagain : cyc.again with
      | none => rfl
      | some b =>
        have hother := hnone.resolve_left (by rw [hagain]; nofun)
        congr 1
        exact if_pos hother
    · obtain ⟨v, hv⟩ : ∃ v : State, v = State.withHost { s with arb := s.freedArb }
          { s.host with port := .idle, rdStrobe := false, wrStrobe := false } := ⟨_, rfl⟩
      have hstrobe : v.strobe { b with rd := !r.write, wr := r.write } data.pins =
          v.noting (v.arrive { b with rd := !r.write, wr := r.write } data.pins) :=
        State.strobe_arrive (by rw [hv]; exact hresetn) (by rw [hv]; rfl) (by rw [hv]; rfl) (by rw [hv]; rfl)
          (by cases r.write <;> simp) data.pins
      refine ⟨v.noting (v.arrive { b with rd := !r.write, wr := r.write } data.pins), ?_, ?_⟩
      · rw [← hstrobe, hv]
        rfl
      · have harb : (v.arrive { b with rd := !r.write, wr := r.write } data.pins).arb = s.freedArb := by
          rw [State.arrive_arb, hv]
          rfl
        rw [← harb, State.noting_withArb, hagain, hv]
        congr 1
        exact if_neg (by rw [Bool.not_eq_true]; exact hother)

/-! ### Releases (R1, R14, R15) -/

/-- With no answer to keep, a release leaves the strobes as they are then (R1). -/
theorem HostSide.release_none {h : HostSide} (hanswer : h.answer = none) (rd wr : Bool) :
    h.release rd wr = { h with rdStrobe := h.rdStrobe && !rd, wrStrobe := h.wrStrobe && !wr } := by
  unfold HostSide.release
  simp only [hanswer]

/-- The answer that a release keeps (R1, log entry 26). -/
theorem HostSide.release_some {h : HostSide} {a : HostAnswer} (hanswer : h.answer = some a) (rd wr : Bool) :
    h.release rd wr = { h with
      rdStrobe := h.rdStrobe && !rd
      wrStrobe := h.wrStrobe && !wr
      answer := if (a.rd = true ∧ (h.rdStrobe && !rd) = true) ∨ (a.wr = true ∧ (h.wrStrobe && !wr) = true) then some a
        else none } := by
  unfold HostSide.release
  simp only [hanswer, Bool.or_eq_true, Bool.and_eq_true (a := a.rd), Bool.and_eq_true (a := a.wr)]
  split <;> rfl

/-- Settles O14, by the states of the host port. -/
theorem releasedStrobesAbandonOrDropTheAnswer : Obligations.ReleasedStrobesAbandonOrDropTheAnswer := by
  intro s rd wr
  have hearly : exec .earlyStrobeRelease s = .next (match s.host.port with
      | .waiting r => s.noting (s.clearGuard.withHost { s.host.releaseOwn r with port := .idle })
      | .held r => s.clearGuard.withHost { s.host.releaseOwn r with port := .idle }
      | .access r cyc =>
        s.withHost { s.host.releaseOwn r with port := .access r { cyc with abandoned := true, again := none } }
      | .idle => s) := by
    change Host.Outcome.next (match s.host.port with
      | .waiting r => _
      | .held r => _
      | .access r cyc => _
      | .idle => s) = _
    cases s.host.port <;> rfl
  have hrelease : exec (.hostStrobeRelease rd wr) s = .next (match s.host.port with
      | .idle => s.withHost (s.host.release rd wr)
      | .waiting r => s.withHost (s.host.release (rd && r.write) (wr && !r.write))
      | .held r => s.withHost (s.host.release (rd && r.write) (wr && !r.write))
      | .access r _ => s.withHost (s.host.release (rd && r.write) (wr && !r.write))) := by
    change Host.Outcome.next (match s.host.port with
      | .idle => _
      | .waiting r => _
      | .held r => _
      | .access r _ => _) = _
    cases s.host.port <;> rfl
  refine ⟨?_, fun hidle => ⟨by rw [hearly, hidle], s.withHost (s.host.release rd wr), by rw [hrelease, hidle], rfl, ?_⟩,
    fun r hanswer hport => ?_⟩
  · rintro r released rfl
    refine ⟨fun hport => ?_, fun hport => ?_, fun cyc hport => ?_⟩ <;> rw [hearly, hport] <;> rfl
  · rw [State.withHost_host]
    cases hanswer : s.host.answer with
    | none =>
      rw [HostSide.release_none hanswer]
      exact ⟨hidle, rfl, rfl, nofun, fun _ => hanswer⟩
    | some a =>
      rw [HostSide.release_some hanswer]
      refine ⟨hidle, rfl, rfl, ?_, nofun⟩
      rintro b hb
      cases hb
      rfl
  · have hboth : exec (.hostStrobeRelease rd wr) s =
        .next (s.withHost (s.host.release (rd && r.write) (wr && !r.write))) := by
      rcases hport with hport | hport | ⟨cyc, hport⟩ <;> rw [hrelease, hport]
    rw [hboth, HostSide.release_none hanswer]
    rfl

end Sys2Proof.Machine
end

section
/-! SUPPORT. The grants of setup writes to the device block, the lanes' limits and the channels (R25 to R31, R39 to R47, R90, R157,
R170, R172). -/

namespace Sys2Proof.Machine

/-! ### A granted setup write -/

/-- A command that grants a setup write leaves what the owner of its word takes, on the grant's arbiter, and the memory cycle
(R6, R7). -/
theorem grantWhen_setup {s : State} {r : HostRecord} {w : SetupWord} (hg : HostGranted s r) (hw : SetupWrite r w)
    {p : State → HostRecord → Bool} (hp : p s r = true) (pins : Pins) :
    s.grantWhen p pins =
      (State.takeSetup { s with arb := s.granted.arb, freeCount := s.granted.freeCount } pins w r.be r.data).memoryCycle r
        HostCycle.bare := by
  rw [grantWhen_of_granted hg hp, State.grantAccess_setup hw, State.countPatience_eq]

/-- The same for a command over the setup words that `p` accepts. -/
theorem grantWhen_targets {s : State} {r : HostRecord} {w : SetupWord} (hg : HostGranted s r) (hw : SetupWrite r w)
    {p : State → HostRecord → SetupWord → Bool} (hp : p s r w = true) (pins : Pins) :
    s.grantWhen (fun s r => targets r (p s r)) pins =
      (State.takeSetup { s with arb := s.granted.arb, freeCount := s.granted.freeCount } pins w r.be r.data).memoryCycle r
        HostCycle.bare :=
  grantWhen_setup hg hw (p := fun s r => targets r (p s r)) (by rw [targets_of_setupWrite hw, hp]) pins

/-- A written field as the merge of the word has it (R8). -/
theorem writtenField_eq (r : HostRecord) (b lo : Nat) {w : Nat} (old : Word) (h1 : 8 * b ≤ lo) (h2 : lo + w ≤ 8 * b + 8)
    (h3 : b < 4) : field (mergeBytes r.be old r.data) lo w = writtenField r b lo (field old lo w) :=
  field_mergeBytes r.be old r.data b lo w h1 h2 h3

/-- A written flag as the merge of the word has it (R8). -/
theorem writtenBit_eq (r : HostRecord) (i : Nat) (old : Word) (h : i < 32) :
    (mergeBytes r.be old r.data).getLsbD i = writtenBit r i (old.getLsbD i) := mergeBytes_bit r.be old r.data i h

/-- The bits of a field at the bottom of a merged word (R8). -/
theorem field_mergeBytes_bit (r : HostRecord) {w : Nat} (old : BitVec w) (hw : w ≤ 32) (i : Nat) (hi : i < w) :
    (field (mergeBytes r.be (place 0 old) r.data) 0 w).getLsbD i = writtenBit r i (old.getLsbD i) := by
  have hi32 : i < 32 := by omega
  rw [field_bit, Nat.zero_add, decide_eq_true hi, Bool.true_and, writtenBit_eq r i _ hi32, place_bit]
  simp [hi32]

/-! ### Limits and latches (R43, R90, R157) -/

theorem State.takeLaneTimer_eq (s : State) (n : LaneId) (r : HostRecord) :
    s.takeLaneTimer n r.be r.data = s.setLane n { s.lane n with
      byteLimit := writtenField r 0 0 (s.lane n).byteLimit
      takeLimit := writtenField r 1 8 (s.lane n).takeLimit
      slotWait := writtenField r 2 16 (s.lane n).slotWait } := by
  unfold State.takeLaneTimer
  dsimp only
  rw [writtenField_eq r 0 0 _ (by omega) (by omega) (by omega), writtenField_eq r 1 8 _ (by omega) (by omega) (by omega),
    writtenField_eq r 2 16 _ (by omega) (by omega) (by omega), Lane.timerWord_byteLimit, Lane.timerWord_takeLimit,
    Lane.timerWord_slotWait]

theorem State.takeChanStall_eq (s : State) (c : ChanId) (r : HostRecord) :
    s.takeChanStall c r.be r.data = s.setChan c { s.chan c with
      stallLimit := writtenField r 0 0 (s.chan c).stallLimit } := by
  unfold State.takeChanStall
  dsimp only
  rw [writtenField_eq r 0 0 _ (by omega) (by omega) (by omega), field_place _ _ _ (by omega)]

/-- Settles O23: each word's fields by the bytes that hold them. -/
theorem limitAndLatchWritesTakeTheirBytes : Obligations.LimitAndLatchWritesTakeTheirBytes := by
  intro s r n c hg
  refine ⟨fun hw => ?_, fun hw => ?_, fun hw =>
    ⟨field (mergeBytes r.be (place 0 (s.lane n).mir.latch) r.data) 0 11, field_mergeBytes_bit r _ (by omega), ?_⟩⟩
  · change Host.Outcome.next (s.grantWhen _ _) = _
    rw [grantWhen_targets hg hw rfl]
    exact congrArg (fun t : State => Host.Outcome.next (t.memoryCycle r HostCycle.bare)) (State.takeLaneTimer_eq _ n r)
  · change Host.Outcome.next (s.grantWhen _ _) = _
    rw [grantWhen_targets hg hw rfl]
    exact congrArg (fun t : State => Host.Outcome.next (t.memoryCycle r HostCycle.bare)) (State.takeChanStall_eq _ c r)
  · change Host.Outcome.next (s.grantWhen _ _) = _
    rw [grantWhen_targets hg hw rfl]
    rfl

/-! ### The array words (R42) -/

theorem State.takeChanGeometry_eq {s : State} {c : ChanId} (h : (s.chan c).state ≠ .running) (r : HostRecord) :
    s.takeChanGeometry c r.be r.data = s.setChan c { s.chan c with
      sizeCode := writtenField r 0 0 (s.chan c).sizeCode
      count := writtenField r 1 8 (s.chan c).count } := by
  unfold State.takeChanGeometry
  dsimp only
  rw [if_neg (by rwa [Channel.running_iff]), writtenField_eq r 0 0 _ (by omega) (by omega) (by omega),
    writtenField_eq r 1 8 _ (by omega) (by omega) (by omega), Channel.geometry_sizeCode, Channel.geometry_count]

theorem State.takeChanBase_eq {s : State} {c : ChanId} (h : (s.chan c).state ≠ .running) (be : Enables) (data : Word) :
    s.takeChanBase c be data = s.setChan c { s.chan c with
      base := field (mergeBytes be (place 0 (s.chan c).base) data) 0 24 } := by
  unfold State.takeChanBase
  dsimp only
  rw [if_neg (by rwa [Channel.running_iff])]

/-- A RUNNING channel ignores its array words (R42). -/
theorem State.takeChanBase_running {s : State} {c : ChanId} (h : (s.chan c).state = .running) (be : Enables) (data : Word) :
    s.takeChanBase c be data = s ∧ s.takeChanGeometry c be data = s := by
  unfold State.takeChanBase State.takeChanGeometry
  dsimp only
  rw [if_pos ((Channel.running_iff _).mpr h), if_pos ((Channel.running_iff _).mpr h)]
  exact ⟨rfl, rfl⟩

/-- Settles O28: the written bytes over the shadow's, or nothing. -/
theorem geometryWritesNeedAStoppedChannel : Obligations.GeometryWritesNeedAStoppedChannel := by
  intro s r c hg
  refine ⟨fun hstopped hw => ⟨field (mergeBytes r.be (place 0 (s.chan c).base) r.data) 0 24,
    field_mergeBytes_bit r _ (by omega), ?_⟩, fun hstopped hw => ?_, fun hrun hw => ?_⟩
  · change Host.Outcome.next (s.grantWhen _ _) = _
    rw [grantWhen_targets hg hw rfl]
    exact congrArg (fun t : State => Host.Outcome.next (t.memoryCycle r HostCycle.bare))
      (State.takeChanBase_eq (s := { s with arb := s.granted.arb, freeCount := s.granted.freeCount }) hstopped _ _)
  · change Host.Outcome.next (s.grantWhen _ _) = _
    rw [grantWhen_targets hg hw rfl]
    exact congrArg (fun t : State => Host.Outcome.next (t.memoryCycle r HostCycle.bare))
      (State.takeChanGeometry_eq (s := { s with arb := s.granted.arb, freeCount := s.granted.freeCount }) hstopped _)
  · obtain ⟨hbase, hgeometry⟩ := State.takeChanBase_running
      (s := { s with arb := s.granted.arb, freeCount := s.granted.freeCount }) hrun r.be r.data
    change Host.Outcome.next (s.grantWhen _ _) = _
    rcases hw with hw | hw <;> rw [grantWhen_targets hg hw rfl]
    · exact congrArg (fun t : State => Host.Outcome.next (t.memoryCycle r HostCycle.bare)) hbase
    · exact congrArg (fun t : State => Host.Outcome.next (t.memoryCycle r HostCycle.bare)) hgeometry

/-! ### LOST and the words that ignore writes (R21, R22, R31) -/

theorem State.takeDeviceStatus_of_clears (s : State) {be : Enables} {data : Word} (h : clearsLost be data = true) :
    s.takeDeviceStatus be data = s.withNu { s.nu with lost := false } := if_pos h

theorem State.takeDeviceStatus_of_keeps (s : State) {be : Enables} {data : Word} (h : clearsLost be data = false) :
    s.takeDeviceStatus be data = s := if_neg (by rw [h]; exact Bool.false_ne_true)

/-- Settles O20: the two outcomes of a device status write, and the words that no write changes. -/
theorem lostIsClearedAndLiveWordsIgnoreWrites : Obligations.LostIsClearedAndLiveWordsIgnoreWrites := by
  intro s r hg
  refine ⟨fun hw hbe hdata => ?_, fun hw => ?_⟩
  · have hclears : clearsLost r.be r.data = true := by rw [clearsLost, hbe, hdata]; rfl
    have hw' : r.setupTarget = some .deviceStatus := hw
    change Host.Outcome.next (s.grantWhen _ _) = _
    rw [grantWhen_setup hg hw (by simp [hw', hclears])]
    exact congrArg (fun t : State => Host.Outcome.next (t.memoryCycle r HostCycle.bare)) (State.takeDeviceStatus_of_clears
      { s with arb := s.granted.arb, freeCount := s.granted.freeCount } hclears)
  · change Host.Outcome.next (s.grantWhen _ _) = _
    rcases hw with ⟨hw, hkeep⟩ | hw | hw | ⟨n, hw⟩ | ⟨c, hw | hw⟩
    · have hclears : clearsLost r.be r.data = false := by
        rcases hkeep with h | h <;> simp only [clearsLost, h, Bool.false_and, Bool.and_false]
      rw [grantWhen_targets hg hw (by rw [hclears]; rfl)]
      exact congrArg (fun t : State => Host.Outcome.next (t.memoryCycle r HostCycle.bare))
        (State.takeDeviceStatus_of_keeps { s with arb := s.granted.arb, freeCount := s.granted.freeCount } hclears)
    all_goals
      rw [grantWhen_targets hg hw rfl]
      rfl

/-! ### Device control (R25 to R29) -/

/-- A control write without RESTART. -/
theorem carriesRestart_of_control {r : HostRecord} (h : ControlWrite r) : carriesRestart r.be r.data = false := by
  rw [← Bool.not_eq_true, carriesRestart, Bool.and_eq_true]
  exact h.2

theorem plainControl_of_control {r : HostRecord} (h : ControlWrite r) : plainControl r = true := by
  have hw : r.setupTarget = some .deviceControl := h.1
  simp [plainControl, hw, carriesRestart_of_control h]

/-- The fields that a control write presents (R25). -/
theorem State.controlPresented_fields (s : State) (r : HostRecord) :
    (s.controlPresented r.be r.data).getLsbD 0 = writtenBit r 0 s.dev.active ∧
      (s.controlPresented r.be r.data).getLsbD 1 = writtenBit r 1 s.dev.irqEn ∧
      field (s.controlPresented r.be r.data) 8 3 = writtenField r 1 8 s.dev.ringSize ∧
      field (s.controlPresented r.be r.data) 16 4 = writtenField r 2 16 s.dev.patience := by
  unfold State.controlPresented
  rw [writtenBit_eq r 0 _ (by omega), writtenBit_eq r 1 _ (by omega),
    writtenField_eq r 1 8 _ (by omega) (by omega) (by omega), writtenField_eq r 2 16 _ (by omega) (by omega) (by omega),
    DeviceShadow.control_active, DeviceShadow.control_irqEn, DeviceShadow.control_ringSize, DeviceShadow.control_patience]
  exact ⟨rfl, rfl, rfl, rfl⟩

/-- A control write that neither restarts the part nor takes ACTIVE to 0 takes its fields and then checks its RING_SIZE
(R25 to R29). -/
theorem State.takeControl_eq {s : State} {r : HostRecord} (h : ControlWrite r)
    (hactive : ¬(s.dev.active = true ∧ writtenBit r 0 s.dev.active = false)) (pins : Pins) :
    s.takeControl pins r.be r.data =
      (s.withDev (s.dev.written r)).takeRingSize (writtenField r 1 8 s.dev.ringSize) := by
  obtain ⟨hact, hirq, hsize, hpat⟩ := s.controlPresented_fields r
  unfold State.takeControl
  rw [if_neg (by rw [carriesRestart_of_control h]; exact Bool.false_ne_true)]
  dsimp only
  rw [hact, hsize]
  congr 1
  unfold State.takeActive State.takeIrqPatience
  dsimp only
  rw [if_neg (by rwa [Bool.and_eq_true, Bool.not_eq_true']), hirq, hpat]
  rfl

/-- The effect of a control write that presents the RING_SIZE of the shadow. -/
theorem State.takeControl_sameSize {s : State} {r : HostRecord} (h : ControlWrite r)
    (hactive : ¬(s.dev.active = true ∧ writtenBit r 0 s.dev.active = false))
    (hsize : writtenField r 1 8 s.dev.ringSize = s.dev.ringSize) (pins : Pins) :
    s.takeControl pins r.be r.data = s.withDev (s.dev.written r) := by
  rw [State.takeControl_eq h hactive, hsize]
  exact if_pos rfl

/-- A control write that writes neither byte 0 nor byte 2 leaves ACTIVE, IRQ_EN and PATIENCE. -/
theorem DeviceShadow.written_none {r : HostRecord} (h0 : r.be.getLsbD 0 = false) (h2 : r.be.getLsbD 2 = false)
    (d : DeviceShadow) : d.written r = d := by
  simp only [DeviceShadow.written, writtenBit, writtenField, Nat.zero_div, Nat.reduceDiv, h0, h2, Bool.false_eq_true, if_false]

/-- Settles O16: the three steps of a control write, of which the second alone has an effect. -/
theorem controlWriteTakesItsFields : Obligations.ControlWriteTakesItsFields := by
  intro s r hg hc hactive hsize
  obtain ⟨hact, _, _, _⟩ := s.controlPresented_fields r
  have hplain := plainControl_of_control hc
  have key (p : State → HostRecord → Bool) (hp : p s r = true) (pins : Pins) :
      Host.Outcome.next (s.grantWhen p pins) = (.next ({ s with dev := s.dev.written r }.withCycle s.granted r
        HostCycle.bare) : Host.Outcome State Fault Refusal) := by
    rw [grantWhen_setup hg hc.1 hp]
    exact congrArg (fun t : State => Host.Outcome.next (t.memoryCycle r HostCycle.bare)) (State.takeControl_sameSize
      (s := { s with arb := s.granted.arb, freeCount := s.granted.freeCount }) hc hactive hsize pins)
  refine ⟨fun hoff hon => key _ ?_ _, fun hbytes => key _ ?_ _, fun h0 h2 pins => (key _ rfl pins).trans ?_⟩
  · rw [hoff] at hon
    simp only [hplain, hact, hoff, hon, Bool.not_false, Bool.and_true]
  · simp only [hplain, Bool.true_and, Bool.or_eq_true]
    exact hbytes
  · rw [DeviceShadow.written_none h0 h2]

/-! ### Ring changes (R29, R172) -/

/-- A ring may stand exactly where it is not misplaced (R172). -/
theorem State.ringMisplaced_iff (s : State) (base : Addr) (size : BitVec 3) :
    s.ringMisplaced (ringExtent base size) = false ↔ RingFits s base size := by
  unfold State.ringMisplaced RingFits
  rw [Bool.or_eq_false_iff, Bool.or_eq_false_iff, decide_eq_false_iff_not, Nat.not_lt, List.any_eq_false]
  refine ⟨fun ⟨⟨hend, hsetup⟩, hchans⟩ => ⟨hend, hsetup, fun c hc => ?_⟩,
    fun ⟨hend, hsetup, hchans⟩ => ⟨⟨hend, hsetup⟩, fun c _ hc => ?_⟩⟩
  · have := hchans c (mem_allChans c)
    rwa [(Channel.running_iff _).mpr hc, Bool.true_and, Bool.not_eq_true] at this
  · obtain ⟨hrun, hover⟩ := Bool.and_eq_true_iff.mp hc
    rw [hchans c ((Channel.running_iff _).mp hrun)] at hover
    exact Bool.false_ne_true hover

/-- Occupancy is 0 exactly with equal indices (R166). -/
theorem NoticeUnit.occupancy_eq_zero (x : NoticeUnit) : x.occupancy = 0 ↔ x.prod = x.cons := by
  unfold NoticeUnit.occupancy
  rw [BitVec.ofNat_eq_ofNat, BitVec.sub_eq_iff_eq_add, BitVec.zero_add]

/-- A ring change is allowed for an empty ring of a size other than code 7 that may stand where it is put (R29, R172). -/
theorem State.ringCheck_none {s : State} {base : Addr} {size : BitVec 3} (h7 : size ≠ 7) (hempty : s.nu.prod = s.nu.cons)
    (hfits : size ≠ 0 → RingFits s base size) : s.ringCheck base size = none := by
  unfold State.ringCheck
  rw [if_neg h7, if_neg (not_not.mpr ((NoticeUnit.occupancy_eq_zero _).mpr hempty)), if_neg]
  rintro ⟨h0, hmis⟩
  rw [(s.ringMisplaced_iff base size).mpr (hfits h0)] at hmis
  exact Bool.false_ne_true hmis

/-- The reasons for which a ring change is refused (R29, R172). -/
theorem State.ringCheck_some {s : State} {base : Addr} {size : BitVec 3} {reason : BitVec 16}
    (h : reason = 15 ∧ size = 7 ∨ reason = 14 ∧ size ≠ 7 ∧ s.nu.prod ≠ s.nu.cons ∨
      reason = 15 ∧ size ≠ 7 ∧ s.nu.prod = s.nu.cons ∧ size ≠ 0 ∧ ¬RingFits s base size) :
    s.ringCheck base size = some reason := by
  unfold State.ringCheck
  rcases h with ⟨rfl, h7⟩ | ⟨rfl, h7, hocc⟩ | ⟨rfl, h7, hempty, h0, hfits⟩
  · rw [if_pos h7]
  · rw [if_neg h7, if_pos (fun h => hocc ((NoticeUnit.occupancy_eq_zero _).mp h))]
  · rw [if_neg h7, if_neg (not_not.mpr ((NoticeUnit.occupancy_eq_zero _).mpr hempty)), if_pos]
    refine ⟨h0, ?_⟩
    rw [← Bool.not_eq_false]
    exact fun hmis => hfits ((s.ringMisplaced_iff base size).mp hmis)

/-- A ring of a size other than codes 0 and 7 has records. -/
theorem ringRecords_pos {size : BitVec 3} (h0 : size ≠ 0) (h7 : size ≠ 7) : 0 < ringRecords size := by
  unfold ringRecords
  rw [if_neg (by rintro (h | h) <;> contradiction)]
  positivity

/-- An allowed ring change (R172). -/
theorem State.ringChange_none {s : State} {base : Addr} {size : BitVec 3} (h7 : size ≠ 7)
    (h : s.ringCheck base size = none) : s.ringChange base size = { s with
      dev := { s.dev with ringBase := base, ringSize := size }
      nu := s.nu.moved size } := by
  have hroom : 0 < ringRecords size ↔ size ≠ 0 := by
    refine ⟨?_, fun h0 => ringRecords_pos h0 h7⟩
    rintro hpos rfl
    exact absurd hpos (by decide)
  unfold State.ringChange
  rw [h]
  dsimp only
  rw [State.startWriter_eq]
  simp only [State.withNu, State.withDev, NoticeUnit.moved, BitVec.sub_self, BitVec.ofNat_eq_ofNat, BitVec.toNat_ofNat,
    Nat.zero_mod, true_and, hroom]

/-- A refused ring change (R172). -/
theorem State.ringChange_some {s : State} {base : Addr} {size : BitVec 3} {reason : BitVec 16}
    (h : s.ringCheck base size = some reason) :
    s.ringChange base size = { s with nu := s.reported true .setupRejected 0xFF 0xFF 0 reason } := by
  unfold State.ringChange
  rw [h]
  exact State.setupRejected_eq ..

/-- Settles O18: the check's outcomes, for the base that a base write presents and for the size that a control write
presents. -/
theorem ringChangeIsCheckedInOrder : Obligations.RingChangeIsCheckedInOrder := by
  intro s r reason hg
  obtain ⟨g, hgeq⟩ : ∃ g : State, g = { s with arb := s.granted.arb, freeCount := s.granted.freeCount } := ⟨_, rfl⟩
  refine ⟨fun hw => ?_, fun size hc hsize hother hactive => ?_⟩
  · have hexec : exec .ringBaseWrite s =
        .next ((g.takeRingBase r.be r.data).memoryCycle r HostCycle.bare) := by
      have hw' : r.setupTarget = some .ringBase := hw
      change Host.Outcome.next (s.grantWhen _ _) = _
      rw [grantWhen_setup hg hw (by rw [hw']; rfl), hgeq]
      rfl
    have hbase : g.presentedBase r.be r.data = s.writtenBase r := by rw [hgeq]; rfl
    have htake : g.takeRingBase r.be r.data =
        if s.writtenBase r = s.dev.ringBase then g else g.ringChange (s.writtenBase r) s.dev.ringSize := by
      unfold State.takeRingBase
      dsimp only
      rw [hbase, hgeq]
    rw [htake] at hexec
    refine ⟨fun hsame => ?_, fun hother h7 hempty hfits => ?_, fun hother h7 hreason => ?_⟩
    · rw [hexec, if_pos hsame, hgeq]
      rfl
    · rw [hexec, if_neg hother, State.ringChange_none h7 (State.ringCheck_none h7 (by rw [hgeq]; exact hempty)
        (by rw [hgeq]; exact hfits)), hgeq]
      rfl
    · rw [hexec, if_neg hother, State.ringChange_some (State.ringCheck_some (reason := reason) (Or.inr ?_)), hgeq]
      · rfl
      · rw [hgeq]
        exact hreason.imp (fun ⟨h1, h2⟩ => ⟨h1, h7, h2⟩) fun ⟨h1, h2, h3, h4⟩ => ⟨h1, h7, h2, h3, h4⟩
  · have hexec : exec .ringSizeChange s =
        .next (((g.withDev (s.dev.written r)).ringChange s.dev.ringBase size).memoryCycle r HostCycle.bare) := by
      have htake : g.takeControl .low r.be r.data = (g.withDev (s.dev.written r)).ringChange s.dev.ringBase size := by
        rw [State.takeControl_eq hc (by rw [hgeq]; exact hactive), hgeq, ← hsize]
        exact if_neg hother
      change Host.Outcome.next (s.grantWhen _ _) = _
      rw [grantWhen_setup hg hc.1, ← htake, hgeq]
      · rfl
      · rw [(s.controlPresented_fields r).2.2.1, ← hsize, plainControl_of_control hc, Bool.true_and, bne_iff_ne]
        exact hother
    refine ⟨fun h7 hempty hfits => ?_, fun hreason => ?_⟩
    · rw [hexec, State.ringChange_none h7 (State.ringCheck_none h7 (by rw [hgeq]; exact hempty)
        (by rw [hgeq]; exact hfits)), hgeq]
      rfl
    · rw [hexec, State.ringChange_some (State.ringCheck_some (reason := reason) (by rw [hgeq]; exact hreason)), hgeq]
      rfl

/-! ### The consumer index (R170) -/

/-- Settles O19: the index presented is the one the bits name, and it is compared with the occupancy. -/
theorem consumerIndexIsAcceptedUpToTheProducer : Obligations.ConsumerIndexIsAcceptedUpToTheProducer := by
  intro s r c hg hw hc
  have hpresented : field (mergeBytes r.be (place 0 s.nu.cons) r.data) 0 16 = c := by
    apply BitVec.eq_of_getLsbD_eq
    intro i hi
    rw [field_mergeBytes_bit r _ (by omega) i hi, hc i hi]
    rfl
  have hw' : r.setupTarget = some .consumerIndex := hw
  have hexec : exec .consumerIndexWrite s = .next ((State.takeConsumer
      { s with arb := s.granted.arb, freeCount := s.granted.freeCount } r.be r.data).memoryCycle r HostCycle.bare) := by
    change Host.Outcome.next (s.grantWhen _ _) = _
    rw [grantWhen_setup hg hw (by rw [hw']; rfl)]
    rfl
  refine ⟨fun hle => ?_, fun hlt => ?_⟩ <;> rw [hexec] <;> unfold State.takeConsumer <;> dsimp only <;> rw [hpresented]
  · rw [if_pos (show s.nu.prod - c ≤ s.nu.occupancy from hle), State.startWriter_eq]
    rfl
  · rw [if_neg (show ¬s.nu.prod - c ≤ s.nu.occupancy from Nat.not_le.mpr hlt)]
    rfl

/-! ### Channel control writes (R39 to R41) and run requests (R44 to R47) -/

/-- A control write leaves the binding that its written bytes present (R39, R40). -/
theorem Channel.bind_eq (ch : Channel) (r : HostRecord) : ch.bind r.be r.data = ch.bound r := by
  have hdir : Direction.ofCode (field (mergeBytes r.be ch.control r.data) 1 1) =
      if writtenBit r 1 (ch.dir == .inbound) = true then .inbound else .outbound := by
    have hcode : ∀ b : BitVec 1, Direction.ofCode b = if b.getLsbD 0 = true then .inbound else .outbound := by decide
    have hbit : (mergeBytes r.be ch.control r.data).getLsbD 1 = writtenBit r 1 (ch.dir == .inbound) := by
      rw [writtenBit_eq r 1 _ (by omega)]
      congr 1
      have hd : ∀ d : Direction, d.code.getLsbD 0 = (d == .inbound) := by intro d; cases d <;> rfl
      rw [← hd, ← Channel.control_dir, field_bit]
      rfl
    rw [hcode, field_bit, ← hbit]
    rfl
  unfold Channel.bind Channel.bound
  dsimp only
  rw [hdir, writtenField_eq r 0 4 _ (by omega) (by omega) (by omega), writtenField_eq r 1 8 _ (by omega) (by omega) (by omega),
    writtenField_eq r 2 16 _ (by omega) (by omega) (by omega), Channel.control_lane, Channel.control_route,
    Channel.control_guard]

/-- Settles O27: the write's RUN bit, and for a RUNNING channel whether the presented GUARD may be taken. -/
theorem controlWritesTakeBindingOrGuard : Obligations.ControlWritesTakeBindingOrGuard := by
  intro s r c hg hw
  obtain ⟨g, hgeq⟩ : ∃ g : State, g = { s with arb := s.granted.arb, freeCount := s.granted.freeCount } := ⟨_, rfl⟩
  have hchan : g.chan c = s.chan c := by rw [hgeq]; rfl
  have key (p : State → HostRecord → SetupWord → Bool) (hp : p s r (.chanControl c) = true) :
      Host.Outcome.next (s.grantWhen (fun s r => targets r (p s r)) .low) =
        (.next ((g.takeChanControl c r.be r.data).memoryCycle r HostCycle.bare) : Host.Outcome State Fault Refusal) := by
    rw [grantWhen_targets hg hw hp, hgeq]
    rfl
  refine ⟨fun hstopped hbe => ?_, fun hstopped hbe hdata => ?_, fun v hv hrun hkeep => ?_⟩
  · have hreq : runRequestOf r.be r.data = none := by rw [runRequestOf, hbe]; rfl
    have hrunning : (s.chan c).running = false := by rwa [Bool.eq_false_iff, ne_eq, Channel.running_iff]
    refine (key _ ?_).trans ?_
    · simp [hreq, hrunning]
    · unfold State.takeChanControl
      simp only [hchan, hrunning, hreq, Channel.bind_eq, Bool.false_eq_true, if_false]
      rw [hgeq]
      rfl
  · have hreq : runRequestOf r.be r.data = some false := by rw [runRequestOf, hbe, hdata]; rfl
    have hrunning : (s.chan c).running = false := by rwa [Bool.eq_false_iff, ne_eq, Channel.running_iff]
    refine (key _ ?_).trans ?_
    · simp [hreq, hrunning]
    · unfold State.takeChanControl
      simp only [hchan, hrunning, hreq, Channel.bind_eq, Bool.false_eq_true, if_false, State.chan_setChan_same,
        State.setChan_setChan]
      rw [hgeq]
      rfl
  · subst hv
    have hreq : runRequestOf r.be r.data ≠ some false := by
      unfold runRequestOf
      rcases hkeep with h | h
      · rw [h]
        exact nofun
      · split
        · rw [h]
          decide
        · exact nofun
    have hrunning : (s.chan c).running = true := (Channel.running_iff _).mpr hrun
    refine (key _ ?_).trans ?_
    · simp [hreq, hrunning]
    · have htaken : (r.be.getLsbD 2 && (s.chan c).guardTaken (field r.data 16 2)) = true ↔
          r.be.getLsbD 2 = true ∧ (r.data.extractLsb' 16 2 = 0 ∨ r.data.extractLsb' 16 2 = 1 ∨
            (r.data.extractLsb' 16 2 = 2 ∧ (s.chan c).stallLimit ≠ 0)) := by
        simp [Channel.guardTaken, field, or_assoc]
      unfold State.takeChanControl
      simp only [hchan, hrunning, if_true, hreq, if_false, htaken]
      split
      · rw [hgeq]
        rfl
      · rw [State.setChan_chan, hgeq]
        rfl

/-- The first failing entry of a list of checks. -/
theorem firstFailing_cons (why : RunReason) (fails : Bool) (l : List (RunReason × Bool)) :
    (((why, fails) :: l).find? fun x => x.2).map (fun x => x.1) =
      if fails = true then some why else (l.find? fun x => x.2).map fun x => x.1 := by
  cases fails <;> rfl

/-- Run validation makes the checks of R44, in their order, on the record the write leaves. -/
theorem State.runCheck_eq (s : State) (c : ChanId) (b : Channel) : (s.setChan c b).runCheck c = s.firstFailure c b := by
  have hothers (p q : Channel → Bool) (h : ∀ d, p d = q d) : (s.setChan c b).anotherRunning c p =
      allChans.any fun d => d != c && (s.chan d).state == .running && q (s.chan d) := by
    unfold State.anotherRunning
    congr 1
    funext d
    by_cases hd : d = c
    · simp [hd]
    · rw [State.chan_setChan_of_ne s hd, h]
      rfl
  have hguard : (b.guard = 3) = ((b.guard == 3) = true) := by rw [beq_iff_eq]
  have hgeom : ((!b.geometryValid) = true) =
      (decide (8 < b.sizeCode.toNat ∨ b.count.toNat = 0 ∨ 64 < b.count.toNat) = true) := by
    simp only [Channel.geometryValid, Bool.not_eq_true', decide_eq_false_iff_not, decide_eq_true_iff, eq_iff_iff]
    omega
  have halign : ((!b.aligned) = true) = (decide (b.base.toNat % b.size ≠ 0) = true) := by
    simp [Channel.aligned]
  have hrange : ((!b.inRange) = true) = (decide (0xFFFFFF < b.base.toNat + b.count.toNat * b.size - 1) = true) := by
    unfold Channel.inRange Channel.extent
    rw [Bool.not_eq_true', decide_eq_false_iff_not, decide_eq_true_iff, eq_iff_iff]
    dsimp only
    omega
  have hring : (s.dev.ringSize ≠ 0 ∧ b.extent.overlaps (ringExtent s.dev.ringBase s.dev.ringSize) = true) =
      ((s.dev.ringSize != 0 && b.extent.overlaps (ringExtent s.dev.ringBase s.dev.ringSize)) = true) := by
    rw [Bool.and_eq_true, bne_iff_ne]
  have hmode : (!modeCarries (s.lane b.lane).mode b.dir) = (match b.dir with
      | .outbound => (s.lane b.lane).mode != .send && (s.lane b.lane).mode != .duplex
      | .inbound => (s.lane b.lane).mode != .receive && (s.lane b.lane).mode != .duplex) := by
    cases b.dir <;> cases (s.lane b.lane).mode <;> rfl
  have hstall : (b.guard = 2 ∧ b.stallLimit = 0) = ((b.guard == 2 && b.stallLimit == 0) = true) := by
    rw [Bool.and_eq_true, beq_iff_eq, beq_iff_eq]
  unfold State.firstFailure State.runFailures
  simp only [firstFailing_cons, List.find?_nil, Option.map_none]
  unfold State.runCheck
  dsimp only
  rw [State.chan_setChan_same, hothers _ _ fun _ => rfl, hothers _ _ fun _ => rfl]
  simp only [hguard, hgeom, halign, hrange, hring, hstall, State.setChan_dev, State.setChan_lane, hmode, Bool.and_assoc]
  rfl

/-- Settles O24: the check's outcome decides between the accepted record and the refusal's report. -/
theorem runRequestIsValidatedInOrder : Obligations.RunRequestIsValidatedInOrder := by
  intro s r c hg hw hstopped hbe hdata
  obtain ⟨g, hgeq⟩ : ∃ g : State, g = { s with arb := s.granted.arb, freeCount := s.granted.freeCount } := ⟨_, rfl⟩
  have hchan : g.chan c = s.chan c := by rw [hgeq]; rfl
  have hreq : runRequestOf r.be r.data = some true := by rw [runRequestOf, hbe, hdata]; rfl
  have hrunning : (s.chan c).running = false := by rwa [Bool.eq_false_iff, ne_eq, Channel.running_iff]
  have hexec : exec .runRequest s =
      .next (((g.setChan c ((s.chan c).bound r)).runRequest c).memoryCycle r HostCycle.bare) := by
    have htake : g.takeChanControl c r.be r.data = (g.setChan c ((s.chan c).bound r)).runRequest c := by
      unfold State.takeChanControl
      simp only [hchan, hrunning, hreq, Channel.bind_eq, Bool.false_eq_true, if_false]
    change Host.Outcome.next (s.grantWhen _ _) = _
    rw [grantWhen_targets hg hw (by simp [hreq, hrunning]), ← htake, hgeq]
    rfl
  have hcheck : (g.setChan c ((s.chan c).bound r)).runCheck c = s.firstFailure c ((s.chan c).bound r) := by
    rw [State.runCheck_eq, hgeq]
    rfl
  refine ⟨fun hnone => ?_, fun why hwhy => ?_⟩ <;> rw [hexec] <;> unfold State.runRequest <;> rw [hcheck]
  · rw [hnone]
    dsimp only
    rw [State.chan_setChan_same, State.setChan_setChan, hgeq]
    rfl
  · rw [hwhy]
    dsimp only
    rw [State.chan_setChan_same, State.setChan_setChan, State.setupRejected_eq, hgeq]
    rfl

end Sys2Proof.Machine
end

section
/-! SUPPORT. The grants of slot accesses: plain accesses and slot reads, commits, withdraws, held writes and the stall timer
(R6, R11, R65 to R77), and what wakes a held write (R75). -/

namespace Sys2Proof.Machine

/-! ### Accesses that take a memory cycle alone (R6, R11) -/

/-- HOST_GRANT grants the waiting access. -/
theorem exec_hostGrant {s : State} {r : HostRecord} (hg : HostGranted s r) (pins : Pins) :
    exec (.hostGrant pins) s = .next (s.countPatience.grantAccess pins r) :=
  congrArg Host.Outcome.next (grantWhen_of_granted hg rfl pins)

/-- A memory cycle that starts on what a grant leaves of the arbiter (R6). -/
theorem State.countPatience_memoryCycle (s : State) (r : HostRecord) (cyc : HostCycle) :
    s.countPatience.memoryCycle r cyc = s.withCycle s.granted r cyc := by
  rw [State.countPatience_eq]
  rfl

/-- A slot write that is performed on what a grant leaves of the arbiter (R9). -/
theorem State.countPatience_performWrite (s : State) (r : HostRecord) (herr : Bool) :
    s.countPatience.performWrite r herr =
      State.withCycle { s with guard := ⟨none, none⟩ } s.granted r ⟨false, herr, none, none⟩ := by
  rw [State.countPatience_eq]
  rfl

theorem State.grantAccess_plain {r : HostRecord} (h : r.cls = .plain) (s : State) (pins : Pins) :
    s.grantAccess pins r = s.memoryCycle r HostCycle.bare := by
  unfold State.grantAccess
  rw [h]
  cases r.write <;> rfl

theorem State.grantAccess_payloadRead {r : HostRecord} {c : ChanId} {k w : Nat} (h : r.cls = .slotPayload c k w)
    (hread : r.write = false) (s : State) (pins : Pins) : s.grantAccess pins r = s.memoryCycle r HostCycle.bare := by
  unfold State.grantAccess
  rw [h, hread]
  rfl

theorem State.grantAccess_headerRead {r : HostRecord} {c : ChanId} {k : Nat} (h : r.cls = .slotHeader c k)
    (hread : r.write = false) (s : State) (pins : Pins) :
    s.grantAccess pins r = s.memoryCycle r ⟨false, false, some (s.overlayOf c k), none⟩ := by
  unfold State.grantAccess
  rw [h, hread]

theorem State.grantAccess_payloadWrite {r : HostRecord} {c : ChanId} {k w : Nat} (h : r.cls = .slotPayload c k w)
    (hwrite : r.write = true) (s : State) (pins : Pins) : s.grantAccess pins r = s.payloadWrite r c k w := by
  unfold State.grantAccess
  rw [h, hwrite]

/-- A header write with a byte of LENGTH not written presents no LENGTH (R64). -/
theorem headerLength_partial {be : Enables} (h : be.getLsbD 0 = false ∨ be.getLsbD 1 = false) (data : Word) :
    headerLength be data = none := by
  unfold headerLength
  rcases h with h | h <;> rw [h]
  · rfl
  · rw [Bool.and_false]
    rfl

/-- The header writes that mean nothing for the slot (R65). -/
theorem State.headerMeaningOf_plain {s : State} {r : HostRecord} {c : ChanId} {k : Nat}
    (h : (s.chan c).dir = .inbound ∧ (s.slot c k).state = .free ∨
      (s.chan c).dir = .outbound ∧ (s.slot c k).state = .free ∧ HeaderWrite r c k 0 ∨
      (s.chan c).dir = .outbound ∧ ((s.slot c k).state = .free ∨ (s.slot c k).state = .failed) ∧
        (r.be.getLsbD 0 = false ∨ r.be.getLsbD 1 = false)) : s.headerMeaningOf r c k = .plain := by
  rcases h with ⟨hdir, hst⟩ | ⟨hdir, hst, hw⟩ | ⟨hdir, hst, hbe⟩
  · unfold State.headerMeaningOf
    rw [hdir, hst]
    rfl
  · rw [State.headerMeaningOf_headerWrite hw, hdir, hst]
    rfl
  · unfold State.headerMeaningOf
    rw [hdir, headerLength_partial hbe]
    rcases hst with hst | hst <;> rw [hst] <;> rfl

/-- Settles O12: the class and direction of the granted access choose its arm, and a plain slot write is performed. -/
theorem hostGrantStartsTheMemoryCycle : Obligations.HostGrantStartsTheMemoryCycle := by
  intro s r pins hg
  rw [exec_hostGrant hg]
  refine ⟨?_, fun c k hcls hread => ?_, fun hwrite hplain => ?_⟩
  · rintro (hcls | ⟨hread, c, k, w, hcls⟩)
    · rw [State.grantAccess_plain hcls, State.countPatience_memoryCycle]
    · rw [State.grantAccess_payloadRead hcls hread, State.countPatience_memoryCycle]
  · rw [State.grantAccess_headerRead hcls hread, State.countPatience_memoryCycle]
    unfold State.overlayOf
    dsimp only
    rw [State.countPatience_slot]
  · rcases hplain with ⟨c, k, w, hcls, hst⟩ | ⟨c, k, hcls, hst⟩
    · have hfree : payloadGuarded (s.countPatience.slot c k).state = false := by
        rw [State.countPatience_slot]
        rcases hst with hst | hst | hst <;> rw [hst] <;> rfl
      rw [State.grantAccess_payloadWrite hcls hwrite, State.payloadWrite, hfree, if_neg Bool.false_ne_true,
        State.countPatience_performWrite]
      rfl
    · rw [State.grantAccess_header hcls hwrite, State.headerMeaningOf_plain (by
        rwa [State.countPatience_chan, State.countPatience_slot])]
      exact congrArg Host.Outcome.next (State.countPatience_performWrite s r false)

/-! ### Commits (R66, R69, R77, R107) -/

/-- A LENGTH from 1 to the capacity commits a FREE slot and recommits a FAILED one; both are taken alike (R65). -/
theorem State.headerWrite_commit {s : State} {c : ChanId} {k len : Nat} {state : SlotState}
    (hcommit : state = .free ∨ state = .failed) (hpos : 1 ≤ len) (hcap : len ≤ (s.chan c).capacity) (r : HostRecord) :
    s.headerWrite r c k (headerMeaning .outbound state (some len) (s.chan c).capacity) = s.commitWrite r c k len := by
  have hne : len ≠ 0 := by omega
  rcases hcommit with rfl | rfl <;> simp only [headerMeaning, if_neg hne, if_pos hcap] <;> rfl

/-- A commit command whose waiting write is a commit of its slot takes it (R66, R69). -/
theorem grantWhen_commit {s : State} {r : HostRecord} {c : ChanId} {k len : Nat} {state : SlotState} (hg : HostGranted s r)
    (h : HeaderWrite r c k len) (hdir : (s.chan c).dir = .outbound) (hpos : 1 ≤ len) (hcap : len ≤ (s.chan c).capacity)
    (hst : (s.slot c k).state = state) (hcommit : state = .free ∨ state = .failed) (pins : Pins) :
    s.grantWhen (fun s r => s.commitTo r state) pins = s.countPatience.commitWrite r c k len := by
  obtain ⟨hcls, hwrite, _⟩ := id h
  rw [grantWhen_of_granted hg (State.commitTo_headerWrite h hdir hst hpos), State.grantAccess_header hcls hwrite,
    State.headerMeaningOf_headerWrite h, State.countPatience_chan, State.countPatience_slot, hdir, hst]
  have hcap' : len ≤ (s.countPatience.chan c).capacity := by rwa [State.countPatience_chan]
  have := State.headerWrite_commit (k := k) hcommit hpos hcap' r
  rwa [State.countPatience_chan] at this

/-- COMMIT from FREE and RECOMMIT from FAILED are the same grant (R66, R69). -/
theorem exec_commit {s : State} {r : HostRecord} {c : ChanId} {k len : Nat} {i : Instr} (hg : HostGranted s r)
    (h : HeaderWrite r c k len) (hdir : (s.chan c).dir = .outbound) (hpos : 1 ≤ len) (hcap : len ≤ (s.chan c).capacity)
    (hi : i = .commit ∧ (s.slot c k).state = .free ∨ i = .recommit ∧ (s.slot c k).state = .failed) :
    exec i s = .next (s.countPatience.commitWrite r c k len) := by
  rcases hi with ⟨rfl, hst⟩ | ⟨rfl, hst⟩
  · exact congrArg Host.Outcome.next (grantWhen_commit hg h hdir hpos hcap hst (.inl rfl) .low)
  · exact congrArg Host.Outcome.next (grantWhen_commit hg h hdir hpos hcap hst (.inr rfl) .low)

/-- A taken commit numbers the slot and appends its entry (R66). -/
theorem State.takeCommit_eq (s : State) (c : ChanId) (k len : Nat) :
    s.takeCommit c k len = (s.setChan c { s.chan c with
      seqCtr := (s.chan c).seqCtr + 1
      slots := (s.chan c).slots.set k ⟨.committed, len, (s.chan c).seqCtr⟩ }).appendEntry (s.chan c).lane ⟨c, k⟩ := by
  unfold State.takeCommit
  dsimp only
  rw [State.setSlot_chan_same, State.setSlot, State.setChan_setChan]

/-- A commit that finds a queue entry free is taken and performed (R66). -/
theorem State.commitWrite_room {s : State} {c : ChanId} (h : (s.lane (s.chan c).lane).snd.queue.length < 16)
    (r : HostRecord) (k len : Nat) : s.commitWrite r c k len = (s.takeCommit c k len).performWrite r false := if_pos h

/-- Where the lane has a reason to wait, an entry joins the tail and nothing starts (R107, R109). -/
theorem State.appendEntry_waits {s : State} {n : LaneId}
    (h : (s.lane n).mode = .send ∧ ((s.lane n).snd.cur ≠ none ∨ (s.lane n).snd.strobe ≠ none) ∨
      (s.lane n).mode = .duplex ∧ ((s.lane n).turn.turn ≠ .idle ∨ (s.lane n).snd.queue ≠ [])) (e : QueueEntry) :
    s.appendEntry n e = s.setSnd n { (s.lane n).snd with queue := (s.lane n).snd.queue ++ [e] } := by
  unfold State.appendEntry
  dsimp only
  rcases h with ⟨hmode, hbusy⟩ | ⟨hmode, hbusy⟩ <;> rw [hmode]
  · exact State.startHead_none _ _ (by rw [State.setSnd_lane_same]; exact .inr hbusy)
  · dsimp only
    rcases hbusy with hturn | hqueue
    · rw [State.decideTurn_none _ _ (by rw [State.setSnd_lane_same]; exact .inr hturn), ite_self]
    · rw [if_neg (by rwa [List.isEmpty_iff])]

/-- Settles O30: the commit is taken, and its entry waits. -/
theorem commitJoinsTheQueue : Obligations.CommitJoinsTheQueue := by
  intro s r c k len hg h hdir hpos hcap hroom hwait t
  have key : s.countPatience.commitWrite r c k len = t.withCycle s.granted r HostCycle.bare := by
    rw [State.commitWrite_room (by rwa [State.countPatience_chan, State.countPatience_lane]), State.takeCommit_eq,
      State.countPatience_chan, State.appendEntry_waits (by rwa [State.setChan_lane, State.countPatience_lane]),
      State.countPatience_eq]
    rfl
  exact ⟨fun hst => (exec_commit hg h hdir hpos hcap (.inl ⟨rfl, hst⟩)).trans (congrArg _ key),
    fun hst => (exec_commit hg h hdir hpos hcap (.inr ⟨rfl, hst⟩)).trans (congrArg _ key)⟩

/-! ### The turn arbiter's decision (R100) -/

/-- With WANT released and an empty queue the turn stays T_IDLE (R100). -/
theorem State.decideTurn_rest {s : State} {n : LaneId} (hwant : (s.lane n).turn.want = false)
    (hqueue : (s.lane n).snd.queue = []) : s.decideTurn n = s := by
  unfold State.decideTurn
  dsimp only
  rw [hwant, hqueue]
  exact ite_self _

/-- WANT takes the turn over an empty queue, and over any queue after an outbound turn (R100). -/
theorem State.decideTurn_in {s : State} {n : LaneId} (hmode : (s.lane n).mode = .duplex)
    (hturn : (s.lane n).turn.turn = .idle) (hwant : (s.lane n).turn.want = true)
    (h : (s.lane n).snd.queue = [] ∨ (s.lane n).turn.last = .outbound) : s.decideTurn n = s.takesIn n := by
  unfold State.decideTurn
  dsimp only
  rw [if_pos ⟨hmode, hturn⟩, hwant]
  cases hempty : (s.lane n).snd.queue.isEmpty with
  | true => exact State.grantIn_eq s n
  | false =>
    rw [← Bool.not_eq_true, List.isEmpty_iff] at hempty
    exact (if_pos (h.resolve_left hempty)).trans (State.grantIn_eq s n)

/-- A waiting entry takes the turn with WANT released, and after an inbound turn (R100, R101). -/
theorem State.decideTurn_out {s : State} {n : LaneId} {e : QueueEntry} {rest : List QueueEntry}
    (hmode : (s.lane n).mode = .duplex) (hturn : (s.lane n).turn.turn = .idle) (hqueue : (s.lane n).snd.queue = e :: rest)
    (hcur : (s.lane n).snd.cur = none) (hstrobe : (s.lane n).snd.strobe = none)
    (h : ¬((s.lane n).turn.want = true ∧ (s.lane n).turn.last = .outbound)) : s.decideTurn n = s.takesOut n e rest := by
  rw [← State.grantOut_eq s n e rest hqueue hcur hstrobe]
  unfold State.decideTurn
  dsimp only
  rw [if_pos ⟨hmode, hturn⟩, hqueue]
  cases hwant : (s.lane n).turn.want with
  | false => rfl
  | true => exact if_neg fun hlast => h ⟨hwant, hlast⟩

/-! ### Commits to a lane at rest (R107, R109, R110) -/

/-- A start takes no queue but the one it is told to leave (R110). -/
theorem State.started_setSnd_queue (s : State) (n : LaneId) (l rest : List QueueEntry) (e : QueueEntry) :
    (s.setSnd n { (s.lane n).snd with queue := l }).started n e rest = s.started n e rest := by
  unfold State.started State.setSlot
  simp only [State.setSnd_lane_same, State.setSnd_chan, State.setSnd_slot, State.setSnd_now]
  congr 1
  unfold State.setSnd
  rw [State.setLane_setChan]
  simp only [State.setLane_setLane, State.lane_setLane_same, State.setChan_lane]

theorem State.takesOut_setSnd_queue (s : State) (n : LaneId) (l rest : List QueueEntry) (e : QueueEntry) :
    (s.setSnd n { (s.lane n).snd with queue := l }).takesOut n e rest = s.takesOut n e rest := by
  unfold State.takesOut
  rw [← State.started_setSnd_queue (s.setTurn n _) n l]
  unfold State.setSnd State.setTurn
  simp only [State.setLane_setLane, State.lane_setLane_same]

/-- A start before the wake for its queue (R110). -/
def State.beginRecord (s : State) (n : LaneId) (e : QueueEntry) (rest : List QueueEntry) : State :=
  (s.setSlot e.chan e.slot { s.slot e.chan e.slot with state := .sending }).setSnd n { (s.lane n).snd with
    queue := rest
    cur := some ⟨e.chan, e.slot, (s.slot e.chan e.slot).len, 0, 0, true⟩
    tx := []
    mover := if (s.lane n).snd.mover = .none ∧ 0 < (s.slot e.chan e.slot).len then .waiting else (s.lane n).snd.mover
    takeTimer := deadline s.now (s.lane n).takeLimit
    data := (s.chan e.chan).route.setWidth 8 }

theorem State.started_eq (s : State) (n : LaneId) (e : QueueEntry) (rest : List QueueEntry) :
    s.started n e rest = (s.beginRecord n e rest).wakeQueue n := rfl

/-- A start leaves the host port and the guard to its wake. -/
theorem State.beginRecord_host_guard (s : State) (n : LaneId) (e : QueueEntry) (rest : List QueueEntry) :
    (s.beginRecord n e rest).host = s.host ∧ (s.beginRecord n e rest).guard = s.guard := ⟨rfl, rfl⟩

/-- While no write is held, a start wakes nothing. -/
theorem State.started_of_not_held {s : State} (hheld : ∀ r, s.host.port ≠ .held r) (n : LaneId) (e : QueueEntry)
    (rest : List QueueEntry) : s.started n e rest = s.beginRecord n e rest :=
  State.wake_of_not_held (s.beginRecord n e rest) _ hheld

/-- A write that the arbiter can grant is not held. -/
theorem not_held_of_granted {s : State} {r : HostRecord} (hg : HostGranted s r) : ∀ q, s.host.port ≠ .held q := by
  intro q h
  rw [hg.1] at h
  cases h

/-- Settles O31: the entry joins an empty queue, and the start or the arbiter's decision takes it. -/
theorem commitStartsAnIdleLane : Obligations.CommitStartsAnIdleLane := by
  intro s r c k len n hg h hdir hpos hcap _ hn hqueue hcur hstrobe q t i hi
  subst hn
  obtain ⟨g, hgeq⟩ : ∃ g : State, g = s.countPatience.setChan c { s.chan c with
      seqCtr := (s.chan c).seqCtr + 1
      slots := (s.chan c).slots.set k ⟨.committed, len, (s.chan c).seqCtr⟩ } := ⟨_, rfl⟩
  have hlane : g.lane (s.chan c).lane = s.lane (s.chan c).lane := by
    rw [hgeq, State.setChan_lane, State.countPatience_lane]
  have hheld : ∀ q, g.host.port ≠ .held q := by
    rw [hgeq, State.countPatience_eq]
    exact fun q => not_held_of_granted hg q
  have hheld' : ∀ q, t.host.port ≠ .held q := fun q => not_held_of_granted hg q
  have hexec : exec i s = .next ((g.appendEntry (s.chan c).lane q).performWrite r false) := by
    rw [exec_commit hg h hdir hpos hcap hi, State.commitWrite_room (by
      rw [State.countPatience_chan, State.countPatience_lane, hqueue]
      decide), State.takeCommit_eq, State.countPatience_chan, hgeq]
  have happend : g.setSnd (s.chan c).lane { (g.lane (s.chan c).lane).snd with
      queue := (g.lane (s.chan c).lane).snd.queue ++ [q] } =
      g.setSnd (s.chan c).lane { (g.lane (s.chan c).lane).snd with queue := [q] } := by
    rw [hlane, hqueue]
    rfl
  refine ⟨fun hmode => ?_, fun hmode hturn hlast => ?_, fun hmode hturn hwant hlast => ?_⟩ <;> rw [hexec] <;>
    unfold State.appendEntry <;> dsimp only <;> rw [happend] <;> simp only [hlane, hmode, hqueue, List.isEmpty_nil, if_true]
  · rw [State.startHead_eq _ _ q [] (by simp) (by simpa [hlane] using hcur) (by simpa [hlane] using hstrobe),
      ← hlane, State.started_setSnd_queue, State.started_of_not_held hheld, State.started_of_not_held hheld', hgeq,
      State.countPatience_eq]
    rfl
  · rw [State.decideTurn_out (e := q) (rest := []) (by simpa [hlane] using hmode) (by simpa [hlane] using hturn) (by simp)
      (by simpa [hlane] using hcur) (by simpa [hlane] using hstrobe) (by simpa [hlane] using hlast), ← hlane,
      State.takesOut_setSnd_queue]
    unfold State.takesOut
    rw [State.started_of_not_held (by exact hheld), State.started_of_not_held (by exact hheld'), hgeq,
      State.countPatience_eq]
    rfl
  · rw [State.decideTurn_in (by simpa [hlane] using hmode) (by simpa [hlane] using hturn) (by simpa [hlane] using hwant)
      (.inr (by simpa [hlane] using hlast)), hgeq, State.countPatience_eq]
    rfl

/-! ### Held writes (R43, R74, R76, R77) -/

/-- A first holding starts the stall timer (R74). -/
theorem State.holdWrite_first {s : State} {h : HeldWrite} (hheld : s.guard.held = none)
    (hlimit : (s.chan h.chan).stallLimit ≠ 0) (r : HostRecord) : s.holdWrite r h = { s with
      guard := ⟨some h, some (s.now + 4 * (s.chan h.chan).stallLimit.toNat)⟩
      host := { s.host with port := .held r } } := by
  unfold State.holdWrite
  rw [hheld]
  dsimp only
  rw [if_neg hlimit, Nat.mul_comm]
  rfl

/-- A first holding under STALL_LIMIT 0 has run out at once (R43). -/
theorem State.holdWrite_runOut {s : State} {h : HeldWrite} (hheld : s.guard.held = none)
    (hlimit : (s.chan h.chan).stallLimit = 0) (r : HostRecord) : s.holdWrite r h = s.endStalled r h := by
  unfold State.holdWrite
  rw [hheld]
  exact if_pos hlimit

/-- A later holding keeps the deadline (R74). -/
theorem State.holdWrite_again {s : State} (hheld : s.guard.held ≠ none) (r : HostRecord) (h : HeldWrite) :
    s.holdWrite r h = { s with
      guard := ⟨some h, s.guard.stallTimer⟩
      host := { s.host with port := .held r } } := by
  unfold State.holdWrite
  split
  · contradiction
  · rfl

/-- A held guarded write that the stall timer ends is reported with cause STALL_EXPIRED (R76, R80). -/
theorem State.endStalled_slot {s : State} {h : HeldWrite} (hreason : h.reason = .slot) (hw : h.word < 1024) (r : HostRecord) :
    s.endStalled r h = { s.setChan h.chan { s.chan h.chan with faults := (s.chan h.chan).faults + 1 } with
      guard := ⟨none, none⟩
      host := { s.host with port := .idle, answer := some ⟨!r.write, r.write, true, none⟩ }
      nu := s.reported ((s.chan h.chan).enables.getLsbD 4) .guardDiscard (BitVec.ofNat 8 h.chan.val)
        (BitVec.ofNat 8 h.slot) (s.slot h.chan h.slot).shownSeq (BitVec.ofNat 16 (3 * 2 ^ 14 + h.word)) } := by
  unfold State.endStalled
  rw [hreason]
  dsimp only
  rw [State.guardDiscard_eq _ _ _ hw]
  rfl

/-- A held commit that the stall timer ends is reported with QUEUE_FULL (R76, R81). -/
theorem State.endStalled_queue {s : State} {h : HeldWrite} (hreason : h.reason = .queue) (r : HostRecord) :
    s.endStalled r h = { s.setChan h.chan { s.chan h.chan with faults := (s.chan h.chan).faults + 1 } with
      guard := ⟨none, none⟩
      host := { s.host with port := .idle, answer := some ⟨!r.write, r.write, true, none⟩ }
      nu := s.reported ((s.chan h.chan).enables.getLsbD 5) .commitRefused (BitVec.ofNat 8 h.chan.val)
        (BitVec.ofNat 8 h.slot) 0 2 } := by
  unfold State.endStalled
  rw [hreason]
  dsimp only
  rw [State.commitRefused_eq]
  rfl

/-- A commit that finds no queue entry free is refused under DISCARD and REJECT (R77). -/
theorem State.commitWrite_refused {s : State} {c : ChanId} (hfull : (s.lane (s.chan c).lane).snd.queue.length = 16)
    (hguard : (s.chan c).guard ≠ 2) (r : HostRecord) (k len : Nat) :
    s.commitWrite r c k len = (s.commitRefused c k 2).performWrite r ((s.chan c).guard == 1) := by
  unfold State.commitWrite
  dsimp only
  rw [hfull, if_neg (Nat.lt_irrefl 16), if_neg hguard]

/-- A commit that finds no queue entry free is held under STALL (R77). -/
theorem State.commitWrite_held {s : State} {c : ChanId} (hfull : (s.lane (s.chan c).lane).snd.queue.length = 16)
    (hguard : (s.chan c).guard = 2) (r : HostRecord) (k len : Nat) :
    s.commitWrite r c k len = s.holdWrite r ⟨c, k, 0, .queue⟩ := by
  unfold State.commitWrite
  dsimp only
  rw [hfull, if_neg (Nat.lt_irrefl 16), if_pos hguard]

/-- A host grant leaves the guard. -/
theorem State.countPatience_guard (s : State) : s.countPatience.guard = s.guard := by rw [State.countPatience_eq]

/-- Settles O33: the policy of the channel decides the outcome of a commit that finds the queue full. -/
theorem commitIntoAFullQueue : Obligations.CommitIntoAFullQueue := by
  intro s r c k len i hg h hdir hpos hcap hfull hi
  have hfull' : (s.countPatience.lane (s.countPatience.chan c).lane).snd.queue.length = 16 := by
    rwa [State.countPatience_chan, State.countPatience_lane]
  rw [exec_commit hg h hdir hpos hcap hi]
  refine ⟨fun hguard => ?_, fun hguard hheld hlimit => ?_, fun hguard hheld => ?_, fun hguard hheld hlimit => ?_⟩
  · have hstall : (s.chan c).guard ≠ 2 := by rcases hguard with hguard | hguard <;> rw [hguard] <;> decide
    rw [State.commitWrite_refused hfull' (by rwa [State.countPatience_chan]), State.commitRefused_eq, State.countPatience_eq]
    rfl
  · rw [State.commitWrite_held hfull' (by rwa [State.countPatience_chan]), State.holdWrite_first (by
      rwa [State.countPatience_guard]) (by rwa [State.countPatience_chan]), State.countPatience_eq]
    rfl
  · rw [State.commitWrite_held hfull' (by rwa [State.countPatience_chan]), State.holdWrite_again (by
      rwa [State.countPatience_guard]), State.countPatience_eq]
  · rw [State.commitWrite_held hfull' (by rwa [State.countPatience_chan]), State.holdWrite_runOut (by
      rwa [State.countPatience_guard]) (by rwa [State.countPatience_chan]), State.endStalled_queue rfl, State.countPatience_eq]
    rfl

/-- Under STALL a guarded write is held (R74). -/
theorem State.guardedWrite_stall {s : State} {c : ChanId} (hguard : (s.chan c).guard = 2) (r : HostRecord) (k w : Nat) :
    s.guardedWrite r c k w = s.holdWrite r ⟨c, k, w, .slot⟩ := if_pos hguard

/-- Settles O38: the holding is the first one, a later one, or has run out at once. -/
theorem guardedWriteIsHeld : Obligations.GuardedWriteIsHeld := by
  intro s r pins c k w hg h hguard hw
  rw [exec_hostGrant_guarded hg h, State.guardedWrite_stall (by rwa [State.countPatience_chan])]
  refine ⟨fun hheld hlimit => ?_, fun hheld => ?_, fun hheld hlimit => ?_⟩
  · rw [State.holdWrite_first (by rwa [State.countPatience_guard]) (by rwa [State.countPatience_chan]), State.countPatience_eq]
    rfl
  · rw [State.holdWrite_again (by rwa [State.countPatience_guard]), State.countPatience_eq]
  · rw [State.holdWrite_runOut (by rwa [State.countPatience_guard]) (by rwa [State.countPatience_chan]),
      State.endStalled_slot rfl hw, State.countPatience_eq]
    rfl

/-! ### Withdraws and freed slots (R68, R69) -/

/-- A header write command whose meaning the waiting write has makes its grant (R65). -/
theorem grantWhen_meaning {s : State} {r : HostRecord} {c : ChanId} {k : Nat} {m : HeaderMeaning} (hg : HostGranted s r)
    (hcls : r.cls = .slotHeader c k) (hwrite : r.write = true) (hm : s.headerMeaningOf r c k = m) (pins : Pins) :
    s.grantWhen (fun s r => s.meaningAtGrant r == some m) pins = s.countPatience.headerWrite r c k m := by
  have hmeaning : s.meaningAtGrant r = some m := by
    unfold State.meaningAtGrant
    rw [hcls, hwrite, ← hm]
  have hm' : s.countPatience.headerMeaningOf r c k = m := by
    rw [← hm]
    unfold State.headerMeaningOf
    rw [State.countPatience_chan, State.countPatience_slot]
  rw [grantWhen_of_granted hg (by rw [hmeaning, beq_self_eq_true]), State.grantAccess_header hcls hwrite, hm']

/-- A queue without the entries of one slot (R68). -/
theorem withdrawn_queue (l : List QueueEntry) (c : ChanId) (k : Nat) :
    (l.filter fun e => !(e.chan == c && e.slot == k)) = l.filter fun e => e ≠ QueueEntry.mk c k := by
  congr 1
  funext e
  obtain ⟨d, j⟩ := e
  rw [Bool.eq_iff_iff]
  simp

/-- Settles O34: LENGTH 0 is the withdraw of a COMMITTED slot and the end of a FAILED one. -/
theorem zeroLengthWithdrawsOrGivesUp : Obligations.ZeroLengthWithdrawsOrGivesUp := by
  intro s r c k hg h hdir
  obtain ⟨hcls, hwrite, _⟩ := id h
  refine ⟨fun hst => ?_, fun hst => ?_⟩
  · change Host.Outcome.next (s.grantWhen _ _) = _
    rw [grantWhen_meaning hg hcls hwrite (by rw [State.headerMeaningOf_headerWrite h, hdir, hst]; rfl)]
    unfold State.headerWrite State.takeWithdraw
    dsimp only
    rw [State.countPatience_chan, State.countPatience_lane, withdrawn_queue, State.countPatience_eq]
    rfl
  · change Host.Outcome.next (s.grantWhen _ _) = _
    rw [grantWhen_meaning hg hcls hwrite (by rw [State.headerMeaningOf_headerWrite h, hdir, hst]; rfl), State.countPatience_eq]
    rfl

/-! ### The guard's law (R71) -/

/-- A discarded guarded write leaves the memory port, the slots and the lanes. -/
theorem State.guardDiscard_keeps (s : State) (c : ChanId) (k w : Nat) (cause : BitVec 2) (d : ChanId) (j : Nat) :
    (s.guardDiscard c k w cause).arb = s.arb ∧ (s.guardDiscard c k w cause).slot d j = s.slot d j ∧
      (s.guardDiscard c k w cause).lanes = s.lanes := by
  rw [State.guardDiscard, State.countFault_chanNotice]
  refine ⟨rfl, ?_, rfl⟩
  change ((s.setChan c _).chan d).slot j = (s.chan d).slot j
  rw [State.chan_setChan]
  split
  · next hcd =>
    subst hcd
    rfl
  · rfl

/-- A guarded write leaves the memory port, the slots and the lanes, whatever the policy (R71 to R74). -/
theorem State.guardedWrite_keeps (s : State) (r : HostRecord) (c : ChanId) (k w : Nat) :
    (s.guardedWrite r c k w).arb = s.arb ∧ (s.guardedWrite r c k w).slot c k = s.slot c k ∧
      (s.guardedWrite r c k w).lanes = s.lanes := by
  have hdiscard (cause : BitVec 2) := s.guardDiscard_keeps c k w cause c k
  unfold State.guardedWrite
  dsimp only
  split
  · unfold State.holdWrite
    split
    · dsimp only
      split
      · exact hdiscard 3
      · exact ⟨rfl, rfl, rfl⟩
    · exact ⟨rfl, rfl, rfl⟩
  · split
    · exact hdiscard 2
    · exact hdiscard 1

/-- Settles O39: no outcome of a guarded write takes the memory port. -/
theorem noHostWriteReachesAPartOwnedSlot : Obligations.NoHostWriteReachesAPartOwnedSlot := by
  intro s r pins c k w hg h
  obtain ⟨harb, hslot, hlanes⟩ := s.countPatience.guardedWrite_keeps r c k w
  refine ⟨_, exec_hostGrant_guarded hg h pins, ?_, ?_, ?_⟩
  · rw [harb, State.countPatience_eq]
    exact hg.2.1
  · rw [hslot, State.countPatience_slot]
  · rw [hlanes, State.countPatience_eq]

/-! ### The stall timer and the wakes (R75, R76) -/

/-- A due stall timer ends the write that is held, or waits again (R76). -/
theorem exec_stallTimerExpiry_due {s : State} {r : HostRecord} {h : HeldWrite} {d : Nat} (hguard : s.guard = ⟨some h, some d⟩)
    (hport : s.host.port = .held r ∨ s.host.port = .waiting r) (hdue : d ≤ s.now) :
    exec .stallTimerExpiry s = .next (s.noting (s.endStalled r h)) := by
  change Host.Outcome.next (if timerDue s.now s.guard.stallTimer then _ else s) = _
  rw [hguard]
  rw [if_pos (by rw [timerDue_some]; exact decide_eq_true hdue)]
  rcases hport with hport | hport <;> rw [hport]

/-- Settles O40: the expiry is the held write's end, reported by its reason. -/
theorem stallTimerEndsTheHeldWrite : Obligations.StallTimerEndsTheHeldWrite := by
  intro s r h d hguard hport hw
  refine ⟨fun hdue hreason => ?_, fun hdue hreason => ?_, fun hearly => ?_⟩
  · rw [exec_stallTimerExpiry_due hguard hport hdue, State.endStalled_slot hreason hw]
  · rw [exec_stallTimerExpiry_due hguard hport hdue, State.endStalled_queue hreason]
  · change Host.Outcome.next (if timerDue s.now s.guard.stallTimer then _ else s) = _
    rw [hguard, if_neg]
    rw [timerDue_some, decide_eq_true_iff]
    omega

/-- What a wake makes of the port of a held write (R75). -/
theorem State.wake_held {s : State} {r : HostRecord} {h : HeldWrite} (hport : s.host.port = .held r)
    (hheld : s.guard.held = some h) (p : HeldWrite → Bool) :
    (s.wake p).host = { s.host with port := if p h = true then .waiting r else .held r } := by
  unfold State.wake
  rw [hport, hheld]
  dsimp only
  split
  · rfl
  · rw [← hport]

/-- What a slot that becomes host-owned makes of the port of a held write (R75). -/
theorem State.wakeSlot_held {s : State} {r : HostRecord} {h : HeldWrite} (hport : s.host.port = .held r)
    (hheld : s.guard.held = some h) (c : ChanId) (k : Nat) : (s.wakeSlot c k).host = { s.host with
      port := if h.reason = .slot ∧ h.chan = c ∧ h.slot = k then .waiting r else .held r } := by
  rw [State.wakeSlot, State.wake_held hport hheld]
  simp only [Bool.and_eq_true, beq_iff_eq, and_assoc]

/-- What an entry that leaves a queue makes of the port of a held write (R75). -/
theorem State.wakeQueue_held {s : State} {r : HostRecord} {h : HeldWrite} (hport : s.host.port = .held r)
    (hheld : s.guard.held = some h) (n : LaneId) : (s.wakeQueue n).host = { s.host with
      port := if h.reason = .queue ∧ (s.chan h.chan).lane = n then .waiting r else .held r } := by
  rw [State.wakeQueue, State.wake_held hport hheld]
  simp only [Bool.and_eq_true, beq_iff_eq]

/-- Settles O41: each passage wakes by the same rule, from a state whose port and guard are those of s. -/
theorem heldWriteIsWoken : Obligations.HeldWriteIsWoken := by
  intro s r h hport hheld
  have hslot (c : ChanId) (k : Nat) := State.wakeSlot_held hport hheld c k
  refine ⟨hslot, fun c k => ⟨fun hwakes => ?_, fun hsleeps => ?_⟩, fun n q d _ => ?_, fun n q => ?_,
    fun n e rest hqueue hcur hstrobe => ?_⟩
  · rw [State.freeSlot_eq, State.wakeSlot_eq, State.wakeSlot_held (by exact hport) (by exact hheld), if_pos hwakes]
    rfl
  · rw [State.freeSlot_eq, State.wakeSlot_eq, State.wakeSlot_held (by exact hport) (by exact hheld), if_neg hsleeps, ← hport]
    rfl
  · rw [State.failRecord_eq]
    exact hslot q.chan q.slot
  · unfold State.recordReady
    dsimp only
    rw [State.chanNotice_eq]
    change (State.wakeSlot _ q.chan q.slot).host = _
    rw [← hslot]
    apply State.wakeSlot_host_congr <;> rfl
  · have hlane : ((s.beginRecord n e rest).chan h.chan).lane = (s.chan h.chan).lane := by
      change ((s.setSlot e.chan e.slot _).chan h.chan).lane = _
      rw [State.setSlot_chan]
      split
      · next heq =>
        rw [heq]
      · rfl
    have hbegin := s.beginRecord_host_guard n e rest
    rw [State.startHead_eq s n e rest hqueue hcur hstrobe, State.started_eq,
      State.wakeQueue_held (by rw [hbegin.1]; exact hport) (by rw [hbegin.2]; exact hheld), hlane, hbegin.1]

end Sys2Proof.Machine
end

section
/-! SUPPORT. The memory port arbiter (chapter 8): what an event leaves of the contenders, which grant is due, and what an internal
grant does. -/

namespace Sys2Proof.Machine

/-! ### The contenders over an event (R147, R152) -/

/-- The contenders of a decision are decided by the contest and the requests presented. -/
theorem State.contenders_congr {s t : State} (hcontest : t.arb.contest = s.arb.contest)
    (hpresented : ∀ who, t.presented who = s.presented who) : t.contenders = s.contenders := by
  have hp : t.presented = s.presented := funext hpresented
  have hstill (found : Contenders) : found.still t = found.still s := by
    unfold Contenders.still
    rw [hp]
  unfold State.contenders State.asking
  simp only [hcontest, hp, hstill]

/-- A contender that stands, joins or is alone has its request presented. -/
theorem State.presented_of_stands {s : State} {who : Requester} :
    (s.stands who = true → s.presented who = true) ∧ (s.joins who = true → s.presented who = true) ∧
      (s.alone who = true → s.presented who = true) := by
  refine ⟨fun h => ?_, fun h => ?_, fun h => ?_⟩ <;> refine State.presented_of_contends ?_ <;> unfold State.contends <;> rw [h] <;>
    simp

/-- With no contender no request is presented. -/
theorem State.not_presented_of_no_contender {s : State} (h : ∀ who, s.contends who = false) (who : Requester) :
    s.presented who = false := by
  by_contra hp
  obtain ⟨w, hw⟩ := State.exists_contends (Bool.eq_true_of_not_eq_false hp)
  rw [h w] at hw
  cases hw

/-- Contenders found, of which one is still presented, are not all withdrawn. -/
theorem State.still_ne_none {s t : State} {who : Requester} (hc : s.contends who = true) (hp : t.presented who = true) :
    s.contenders.still t ≠ .none := by
  intro hnone
  unfold State.contends State.stands State.joins State.alone at hc
  simp only [Contenders.still, Contenders.none, Contenders.mk.injEq, List.filter_eq_nil_iff] at hnone
  obtain ⟨hstanding, hjoining, halone⟩ := hnone
  simp only [Bool.or_eq_true, List.contains_iff_mem] at hc
  rcases hc with (hc | hc) | hc
  · exact hstanding who hc hp
  · exact hjoining who hc hp
  · exact halone who hc hp

/-- Contenders found, of which none is still presented, are all withdrawn. -/
theorem State.still_eq_none {s t : State} (h : ∀ who, s.contends who = true → t.presented who = false) :
    s.contenders.still t = .none := by
  have hall (who : Requester)
      (hw : who ∈ s.contenders.standing ∨ who ∈ s.contenders.joining ∨ who ∈ s.contenders.alone) :
      ¬t.presented who = true := by
    rw [Bool.not_eq_true]
    refine h who ?_
    simp only [State.contends, State.stands, State.joins, State.alone, Bool.or_eq_true, List.contains_iff_mem]
    tauto
  simp only [Contenders.still, Contenders.none, Contenders.mk.injEq, List.filter_eq_nil_iff]
  exact ⟨fun w hw => hall w (.inl hw), fun w hw => hall w (.inr (.inl hw)), fun w hw => hall w (.inr (.inr hw))⟩

/-- A request that has not changed keeps its standing. -/
theorem and_presented {b p : Bool} (h : b = true → p = true) : b = (b && p) := by
  cases b
  · rfl
  · exact (h rfl).symm

/-- An event at a FREE port leaves the contenders still presented as they are (R147, R152). -/
theorem State.noting_contenders {s t : State} (hfree : s.arb.port = none) (harb : t.arb = s.arb)
    (h : ∃ who, s.contends who = true ∧ t.presented who = true) (who : Requester) :
    (s.noting t).stands who = (s.stands who && t.presented who) ∧ (s.noting t).joins who = (s.joins who && t.presented who) ∧
      (s.noting t).alone who = (s.alone who && t.presented who) := by
  by_cases hsame : ∀ who, t.presented who = s.presented who
  · have hcont := State.contenders_congr (congrArg Arbiter.contest harb) hsame
    obtain ⟨hstands, hjoins, halone⟩ := State.presented_of_stands (s := s) (who := who)
    rw [State.noting_of_same hsame, hsame who]
    unfold State.stands State.joins State.alone at *
    rw [hcont]
    exact ⟨and_presented hstands, and_presented hjoins, and_presented halone⟩
  · obtain ⟨w, hw⟩ := not_forall.mp hsame
    obtain ⟨c, hc, hp⟩ := h
    rw [State.noting_of_changed hfree (Ne.symm hw)]
    exact State.contenders_recorded (s := t.withArb { t.arb with contest := .recorded s.contenders }) rfl
      (State.still_ne_none (t := t) hc hp) who

/-- With every contender withdrawn, each request presented is alone (R147). -/
theorem State.noting_alone {s t : State} (hfree : s.arb.port = none) (harb : t.arb = s.arb)
    (h : ∀ who, s.contends who = true → t.presented who = false) (who : Requester) :
    (s.noting t).stands who = false ∧ (s.noting t).joins who = false ∧ (s.noting t).alone who = t.presented who := by
  by_cases hsame : ∀ who, t.presented who = s.presented who
  · have hcont := State.contenders_congr (congrArg Arbiter.contest harb) hsame
    have hnone (who : Requester) : s.contends who = false := by
      by_contra hc
      rw [Bool.not_eq_false] at hc
      have := h who hc
      rw [hsame, State.presented_of_contends hc] at this
      cases this
    have hw := hnone who
    unfold State.contends at hw
    rw [Bool.or_eq_false_iff, Bool.or_eq_false_iff] at hw
    obtain ⟨⟨hstands, hjoins⟩, halone⟩ := hw
    rw [State.noting_of_same hsame, hsame who, State.not_presented_of_no_contender hnone]
    unfold State.stands State.joins State.alone at *
    rw [hcont]
    exact ⟨hstands, hjoins, halone⟩
  · obtain ⟨w, hw⟩ := not_forall.mp hsame
    rw [State.noting_of_changed hfree (Ne.symm hw)]
    exact State.contenders_none (s := t.withArb { t.arb with contest := .recorded s.contenders }) rfl
      (State.still_eq_none (t := t) h) who

/-! ### Which grant is due (R147, R148) -/

/-- An internal request that stands contends. -/
theorem State.internalContending_of_standing {s : State} (h : s.internalStanding = true) : s.internalContending = true := by
  obtain ⟨p, hp⟩ := (any_internalRequesters _).mp h
  refine (any_internalRequesters _).mpr ⟨p, ?_⟩
  unfold State.contends
  rw [hp]
  rfl

/-- Every requester but the host has a place in the circle. -/
theorem requesterAt_surjective {who : Requester} (h : who ≠ .host) : ∃ p, requesterAt p = who := by
  cases who with
  | host => contradiction
  | notice => exact ⟨0, rfl⟩
  | send n => revert n; decide
  | recv n => revert n; decide

/-- A host request presented is an access in HP_WAITING. -/
theorem State.waiting_of_presented {s : State} (h : s.presented .host = true) : ∃ r, s.host.port = .waiting r := by
  unfold State.presented at h
  dsimp only at h
  split at h
  · next r hr => exact ⟨r, hr⟩
  · cases h

/-- A FREE port with a request presented has a grant due (R147, R148). -/
theorem State.grant_due {s : State} (hfree : s.arb.port = none) (h : ∃ who, s.presented who = true) :
    (∃ r, HostGranted s r) ∨
      (s.internalContending = true ∧ (s.stands .host = false ∨ s.dev.patience ≤ s.arb.patienceCtr)) := by
  obtain ⟨_, hp⟩ := h
  obtain ⟨w, hw⟩ := State.exists_contends hp
  by_cases hhost : s.contends .host = true
  · obtain ⟨r, hr⟩ := State.waiting_of_presented (State.presented_of_contends hhost)
    by_cases hstanding : s.internalStanding = true
    · by_cases hpat : s.arb.patienceCtr < s.dev.patience
      · exact .inl ⟨r, hr, hfree, hhost, .inr hpat⟩
      · exact .inr ⟨State.internalContending_of_standing hstanding, .inr (BitVec.not_lt.mp hpat)⟩
    · exact .inl ⟨r, hr, hfree, hhost, .inl (Bool.eq_false_of_not_eq_true hstanding)⟩
  · have hne : w ≠ .host := by rintro rfl; exact hhost hw
    obtain ⟨p, rfl⟩ := requesterAt_surjective hne
    refine .inr ⟨(any_internalRequesters _).mpr ⟨p, hw⟩, .inl ?_⟩
    by_contra hs
    rw [Bool.not_eq_false] at hs
    exact hhost (by unfold State.contends; rw [hs]; rfl)

/-! ### The internal grant (R146, R149, R150) -/

/-- What an internal requester's own record takes at its grant: its lane's movers alone, or the writer. -/
theorem State.markGranted_lane (s : State) (who : Requester) (n : LaneId) :
    (s.markGranted who).lane n = { s.lane n with
      snd := if who = .send n then { (s.lane n).snd with mover := .busy } else (s.lane n).snd
      rcv := if who = .recv n then { (s.lane n).rcv with mover := .busy } else (s.lane n).rcv } := by
  cases who with
  | host => simp only [reduceCtorEq, if_false]; rfl
  | notice => simp only [reduceCtorEq, if_false]; rfl
  | send m =>
    simp only [reduceCtorEq, if_false, Requester.send.injEq]
    rw [State.markGranted, State.setSnd_lane]
    split
    · next h => subst h; rfl
    · rfl
  | recv m =>
    simp only [reduceCtorEq, if_false, Requester.recv.injEq]
    rw [State.markGranted, State.setRcv_lane]
    split
    · next h => subst h; rfl
    · rfl

theorem State.markGranted_frame (s : State) (who : Requester) :
    (s.markGranted who).host = s.host ∧ (s.markGranted who).guard = s.guard ∧ (s.markGranted who).dev = s.dev ∧
      (s.markGranted who).chans = s.chans := by
  cases who <;> exact ⟨rfl, rfl, rfl, rfl⟩

theorem State.markGranted_nu {s : State} {who : Requester} (h : s.presented who = true) :
    (s.markGranted who).nu = if who = .notice then { s.nu with
      writer := if s.nu.writer = .word0Waiting then .word0Writing else .word1Writing } else s.nu := by
  cases who with
  | notice =>
    rw [if_pos rfl]
    unfold State.presented at h
    simp only [Bool.or_eq_true, beq_iff_eq] at h
    unfold State.markGranted
    rcases h with h | h <;> rw [h] <;> rfl
  | host => rfl
  | send m => rfl
  | recv m => rfl

/-- A receive side whose mover asks has a record that it fills or closes (R124). -/
theorem RecvRecordLaw.record {x : RecvSide} (h : RecvRecordLaw x) (hmover : x.mover = .waiting ∨ x.mover = .busy) :
    ∃ q, x.state = .filling q ∨ x.state = .closing q := by
  obtain ⟨_, _, hother⟩ := h
  cases hstate : x.state with
  | filling q => exact ⟨q, .inl rfl⟩
  | closing q => exact ⟨q, .inr rfl⟩
  | idle | slotWait | discarding =>
    rw [hstate] at hother
    obtain ⟨_, hwaiting, hbusy⟩ := hother (by simp [RecvState.code]) (by simp [RecvState.code])
    rcases hmover with hm | hm
    · exact absurd hm hwaiting
    · exact absurd hm hbusy

/-- A send side whose mover asks has a current record (R105). -/
theorem SendRecordLaw.record {x : SendSide} (h : SendRecordLaw x) (hmover : x.mover = .waiting ∨ x.mover = .busy) :
    ∃ q, x.cur = some q := by
  cases hcur : x.cur with
  | some q => exact ⟨q, rfl⟩
  | none =>
    obtain ⟨_, hwaiting, hbusy⟩ := h.2 hcur
    rcases hmover with hm | hm
    · exact absurd hm hwaiting
    · exact absurd hm hbusy

/-- Under the laws every internal request presented names an access (R145). -/
theorem State.internalAccess_isSome {s : State} (hring : RingLaw s) (hrecord : RecordLaw s) {who : Requester}
    (hne : who ≠ .host) (h : s.presented who = true) : ∃ a, s.internalAccess who = some a := by
  obtain ⟨_, _, _, hwriter⟩ := hring
  cases who with
  | host => contradiction
  | notice =>
    have hlist : s.nu.list ≠ [] := by
      refine (hwriter ?_).1
      simp only [State.presented, Bool.or_eq_true, beq_iff_eq] at h
      rcases h with h | h <;> rw [h] <;> decide
    obtain ⟨x, rest, hx⟩ := List.exists_cons_of_ne_nil hlist
    exact ⟨s.noticeAccess x, by rw [State.internalAccess, hx]; rfl⟩
  | send n =>
    obtain ⟨q, hq⟩ := (hrecord n).1.record (.inl (eq_of_beq h))
    exact ⟨s.sendAccess q, by rw [State.internalAccess, hq]; rfl⟩
  | recv n =>
    obtain ⟨q, hq⟩ := (hrecord n).2.record (.inl (eq_of_beq h))
    exact ⟨s.recvAccess (s.lane n).rcv q, by rcases hq with hq | hq <;> rw [State.internalAccess, hq]⟩

theorem requesterAt_ne_host (p : Fin 9) : requesterAt p ≠ .host := by revert p; decide

/-- An internal grant whose request names an access (R146, R149, R150). -/
theorem State.grantInternal_eq {s : State} {p : Fin 9} {a : MemAccess} (h : s.internalAccess (requesterAt p) = some a) :
    ∃ count, s.grantInternal p = { s.markGranted (requesterAt p) with
      freeCount := count
      arb := ⟨some ⟨requesterAt p, a⟩, p + 1, 0, .recorded .none⟩ } := by
  unfold State.grantInternal
  rw [h]
  dsimp only
  rw [State.drawFree_eq]
  exact ⟨_, rfl⟩

/-- MEMORY_PORT_GRANT, where the arbiter makes an internal grant (R147, R148). -/
theorem exec_memoryPortGrant_due {s : State} (hfree : s.arb.port = none) (hcont : s.internalContending = true)
    (hhost : s.stands .host = false ∨ s.dev.patience ≤ s.arb.patienceCtr) :
    ∃ p ∈ s.candidates, exec .memoryPortGrant s = .next (s.grantInternal p) := by
  have hwins : s.internalWins = true := by
    unfold State.internalWins
    rw [hfree, State.internalContends_eq, hcont]
    rcases hhost with hhost | hhost
    · rw [hhost]
      rfl
    · rw [decide_eq_true hhost, Bool.or_true]
      rfl
  obtain ⟨p, hp⟩ := State.nextInternal_isSome hcont
  refine ⟨p, State.nextInternal_mem hp, ?_⟩
  change Host.Outcome.next (if s.internalWins then _ else s) = _
  rw [if_pos hwins, hp]

/-- MEMORY_PORT_GRANT, where the arbiter makes no internal grant. -/
theorem exec_memoryPortGrant_none {s : State} (h : s.arb.port ≠ none ∨ s.internalContending = false ∨
    (s.stands .host = true ∧ s.arb.patienceCtr < s.dev.patience)) : exec .memoryPortGrant s = .next s := by
  change Host.Outcome.next (if s.internalWins then _ else s) = _
  rw [if_neg]
  unfold State.internalWins
  rw [State.internalContends_eq]
  simp only [Bool.and_eq_true, Bool.or_eq_true, Bool.not_eq_true', decide_eq_true_iff, Option.isNone_iff_eq_none]
  rintro ⟨⟨hfree, hcont⟩, hhost⟩
  rcases h with h | h | ⟨hstands, hpat⟩
  · exact h hfree
  · rw [h] at hcont
    cases hcont
  · rcases hhost with hhost | hhost
    · rw [hstands] at hhost
      cases hhost
    · exact absurd hpat (BitVec.not_lt.mpr hhost)

/-- HOST_GRANT, where the arbiter does not grant the host (R147, R148). -/
theorem exec_hostGrant_none {s : State} (h : s.arb.port ≠ none ∨ s.contends .host = false ∨
    (s.internalStanding = true ∧ s.dev.patience ≤ s.arb.patienceCtr)) (pins : Pins) : exec (.hostGrant pins) s = .next s := by
  have hloses : s.hostWins = false := by
    unfold State.hostWins State.hostPreferred
    rw [State.internalStands_eq]
    rcases h with h | h | ⟨hstanding, hpat⟩
    · rw [Option.isNone_eq_false_iff.mpr (Option.ne_none_iff_isSome.mp h), Bool.false_and, Bool.false_and]
    · rw [h, Bool.and_false, Bool.false_and]
    · rw [hstanding, decide_eq_false (BitVec.not_lt.mpr hpat)]
      exact Bool.and_false _
  change Host.Outcome.next (s.grantWhen _ pins) = _
  unfold State.grantWhen
  split
  · rw [hloses, Bool.false_and, if_neg Bool.false_ne_true]
  · rfl

/-- Settles O42: the contenders over an event, the counter of a host grant, the grant that is due, and the internal grant. -/
theorem arbiterGrantsInCircleOrder : Obligations.ArbiterGrantsInCircleOrder := by
  intro s
  refine ⟨fun who => ⟨rfl, State.presented_of_contends, fun standing h => State.contenders_opened h who⟩,
    fun t hfree harb => ⟨by rw [State.noting_port, harb, hfree], State.noting_contenders hfree harb,
      State.noting_alone hfree harb⟩,
    ⟨fun h => if_pos (.inl h), fun h h2 => if_neg ?_⟩, State.grant_due, fun hring hrecord hfree hcont hhost => ?_,
    exec_memoryPortGrant_none, fun pins h => exec_hostGrant_none h pins⟩
  · rintro (hs | ⟨⟨_, hjoins, hpat⟩, _⟩)
    · rw [h] at hs
      cases hs
    · rcases h2 with h2 | h2
      · rw [h2] at hjoins
        cases hjoins
      · exact absurd hpat (BitVec.not_lt.mpr h2)
  · obtain ⟨p, hp, hexec⟩ := exec_memoryPortGrant_due hfree hcont hhost
    have hcontends := State.contends_of_candidates s hp
    have hpresented := State.presented_of_contends hcontends
    obtain ⟨a, ha⟩ := State.internalAccess_isSome hring hrecord (requesterAt_ne_host p) hpresented
    obtain ⟨count, hgrant⟩ := State.grantInternal_eq ha
    obtain ⟨hhost', hguard, hdev, hchans⟩ := s.markGranted_frame (requesterAt p)
    refine ⟨p, a, _, hexec, hcontends, fun q hq => State.candidates_first hp hq, ?_⟩
    rw [hgrant]
    exact ⟨rfl, hhost', hguard, hdev, hchans, State.markGranted_nu hpresented, s.markGranted_lane (requesterAt p)⟩

end Sys2Proof.Machine
end

section
/-! SUPPORT. Outbound records (chapter 6): the send mover's read, failures, takes, completions, the abort strobe and the turn. -/

namespace Sys2Proof.Machine

/-! ### The send mover's read (R114, R115, R120) -/

theorem lowBytes_eq (data : Word) (count : Nat) : lowBytes data count = wordBytes data count := rfl

@[simp] theorem wordBytes_length (data : Word) (count : Nat) : (wordBytes data count).length = count := by
  simp [wordBytes]

/-- The bytes of a word begin with its lowest one. -/
theorem wordBytes_cons (data : Word) {count : Nat} (h : 0 < count) :
    wordBytes data count = data.extractLsb' 0 8 :: (wordBytes data count).tail := by
  obtain ⟨m, rfl⟩ : ∃ m, count = m + 1 := ⟨count - 1, by omega⟩
  simp [wordBytes, List.range_succ_eq_map]

/-- The completion of a read for the current record (R115, R119). -/
theorem exec_sendRead_busy {s : State} {n : LaneId} {a : MemAccess} {q : SendRecord} (hport : s.arb.port = some ⟨.send n, a⟩)
    (hbusy : (s.lane n).snd.mover = .busy) (hcur : (s.lane n).snd.cur = some q) (data : Word) (merr : Bool) :
    exec (.sendMoverReadCompletion data merr) s = .next (
      if merr then (s.freePort.setSnd n { (s.lane n).snd with mover := .none }).failRecord n q 2
      else s.freePort.readDone n q data) := by
  unfold exec execSendMoverReadCompletion
  simp only [hport]
  split
  · next r _ hr =>
    rw [hcur] at hr
    cases hr
    rfl
  · next h =>
    rw [hbusy] at h
    cases h
  · next hother => exact absurd hcur (hother q hbusy)

/-- The completion of an orphaned read (R120). -/
theorem exec_sendRead_orphaned {s : State} {n : LaneId} {a : MemAccess} (hport : s.arb.port = some ⟨.send n, a⟩)
    (horphan : (s.lane n).snd.mover = .orphaned) (data : Word) (merr : Bool) :
    exec (.sendMoverReadCompletion data merr) s =
      .next (s.freePort.setSnd n { (s.lane n).snd with mover := .none }.present) := by
  unfold exec execSendMoverReadCompletion
  simp only [hport]
  split
  · next h _ =>
    rw [horphan] at h
    cases h
  · rfl
  · next hother _ => exact absurd horphan hother

/-- A read for a side that offers joins the buffer (R115). -/
theorem State.readDone_offering {s : State} {n : LaneId} {q : SendRecord} (h : q.offering = true) (data : Word) :
    s.readDone n q data = s.setSnd n { (s.lane n).snd with
      tx := (s.lane n).snd.tx ++ wordBytes data q.nextCount
      cur := some { q with read := q.read + q.nextCount }
      mover := if (s.lane n).snd.tx.length + q.nextCount + 4 ≤ 16 ∧ q.read + q.nextCount < q.len then .waiting
        else .none } := by
  unfold State.readDone
  dsimp only
  rw [if_pos h, lowBytes_eq, SendSide.present_some _ _ rfl]
  simp only [List.length_append, wordBytes_length, true_and]

/-- A read for a starved side is offered at once (R115). -/
theorem State.readDone_starved {s : State} {n : LaneId} {q : SendRecord} (h : q.offering = false)
    (htx : (s.lane n).snd.tx = []) (hread : q.read < q.len) (data : Word) :
    s.readDone n q data = s.setSnd n { (s.lane n).snd with
      tx := (wordBytes data q.nextCount).tail
      data := data.extractLsb' 0 8
      cur := some { q with read := q.read + q.nextCount, offered := q.offered + 1, offering := true }
      takeTimer := deadline s.now (s.lane n).takeLimit
      mover := if q.read + q.nextCount < q.len then .waiting else .none } := by
  have hcount : 0 < q.nextCount ∧ q.nextCount ≤ 4 := by
    unfold SendRecord.nextCount
    omega
  obtain ⟨hpos, hle⟩ := hcount
  have hroom : (wordBytes data q.nextCount).tail.length + 4 ≤ 16 := by
    rw [List.length_tail, wordBytes_length]
    omega
  unfold State.readDone
  dsimp only
  rw [if_neg (by rw [h]; exact Bool.false_ne_true), lowBytes_eq, htx, List.nil_append, wordBytes_cons data hpos]
  unfold SendSide.offerNext SendSide.offer
  dsimp only
  rw [SendSide.present_some _ _ rfl, startLaneTimer_eq_deadline]
  simp only [hroom, true_and, List.tail_cons]

/-- Settles O44: a read for an offering side, for a starved one, and for none. -/
theorem sendReadFeedsTheLines : Obligations.SendReadFeedsTheLines := by
  intro s n a data merr x u hport hx hu
  subst hx hu
  refine ⟨fun q count hbusy hcur hcount => ⟨fun hoff => ?_, fun hoff htx hread => ?_⟩, fun horphan => ⟨fun hcur => ?_,
    fun q hcur => ?_⟩⟩
  · subst hcount
    rw [exec_sendRead_busy hport hbusy hcur]
    exact congrArg Host.Outcome.next (State.readDone_offering (s := s.freePort) hoff data)
  · subst hcount
    rw [exec_sendRead_busy hport hbusy hcur]
    exact congrArg Host.Outcome.next (State.readDone_starved (s := s.freePort) hoff htx hread data)
  · rw [exec_sendRead_orphaned hport horphan]
    rw [SendSide.present_none _ (by exact hcur)]
    rfl
  · rw [exec_sendRead_orphaned hport horphan]
    rw [SendSide.present_some _ q (by exact hcur)]
    simp only [true_and]
    rfl

/-! ### Failures (R93, R118, R119) -/

/-- A record that fails leaves no trace of what its mover was. -/
theorem State.sendFailed_setSnd_mover (s : State) (n : LaneId) (q : SendRecord) (m after : Mover) (detail : BitVec 16) :
    (s.setSnd n { (s.lane n).snd with mover := m }).sendFailed n q after detail = s.sendFailed n q after detail := by
  unfold State.sendFailed
  simp only [State.setSnd_lane_same, State.setSnd_chan, State.setSnd_now, State.setSnd_setSnd]
  congr 1
  apply State.wakeSlot_host_congr <;> rfl

/-- With no timer due no record fails. -/
theorem timerDue_early {now : Nat} {t : Option Nat} (h : t = none ∨ ∃ d, t = some d ∧ now < d) : timerDue now t = false := by
  rcases h with rfl | ⟨d, rfl, hd⟩
  · rfl
  · rw [timerDue_some, decide_eq_false_iff_not]
    omega

/-- Settles O45: the two ways a record fails, by its timer and by its read. -/
theorem failedRecordGivesTheStrobeAndIsReported : Obligations.FailedRecordGivesTheStrobeAndIsReported := by
  intro s n q hcur
  have hexec : exec (.takeTimerExpiry n) s = .next (
      if q.offering && timerDue s.now (s.lane n).snd.takeTimer then s.noting (s.failRecord n q 1) else s) := by
    change Host.Outcome.next (match (s.lane n).snd.cur with
      | some r => _
      | none => s) = _
    rw [hcur]
  refine ⟨fun d hoff htimer hdue => ?_, fun hearly => ?_, fun a data hport hbusy => ?_⟩
  · rw [hexec, hoff, htimer, timerDue_some, decide_eq_true hdue, State.failRecord_eq, Mover.endRecord_eq]
    rfl
  · rw [hexec, timerDue_early hearly, Bool.and_false, if_neg Bool.false_ne_true]
  · rw [exec_sendRead_busy hport hbusy hcur, if_pos rfl, State.failRecord_eq, State.setSnd_lane_same]
    exact congrArg Host.Outcome.next (State.sendFailed_setSnd_mover s.freePort n q .none .none 2)

/-! ### Takes (R92, R116, R117) -/

/-- A TAKE pulse that met a standing offer takes its byte (R92). -/
theorem exec_take_offered {s : State} {n : LaneId} {q : SendRecord} (hpulse : (s.lane n).snd.takePulse = some true)
    (hcur : (s.lane n).snd.cur = some q) (hoff : q.offering = true) :
    exec (.take n) s = .next (s.noting ((s.setSnd n { (s.lane n).snd with takePulse := none }).takeByte n q)) := by
  change Host.Outcome.next (match (s.lane n).snd.takePulse, (s.lane n).snd.cur with
    | some true, some r => _
    | _, _ => _) = _
  split
  · next r _ hr =>
    rw [hcur] at hr
    cases hr
    exact congrArg Host.Outcome.next (if_pos hoff)
  · next hother => exact absurd hcur (hother q hpulse)

/-- Any other TAKE pulse is ignored (R92). -/
theorem exec_take_ignored {s : State} {n : LaneId} (h : (s.lane n).snd.takePulse ≠ some true ∨ (s.lane n).snd.cur = none ∨
    ∃ q, (s.lane n).snd.cur = some q ∧ q.offering = false) :
    exec (.take n) s = .next (s.setSnd n { (s.lane n).snd with takePulse := none }) := by
  change Host.Outcome.next (match (s.lane n).snd.takePulse, (s.lane n).snd.cur with
    | some true, some r => _
    | _, _ => _) = _
  split
  · next hpulse hcur =>
    rcases h with h | h | ⟨q, h, hoff⟩
    · exact absurd hpulse h
    · rw [h] at hcur
      cases hcur
    · rw [h] at hcur
      cases hcur
      rw [hoff]
      rfl
  · rfl

/-- A byte that is not the last is taken: the next one is offered, or the side is starved (R92, R116). -/
theorem State.takeByte_next {s : State} {n : LaneId} {q : SendRecord} (h : q.offered ≠ q.len) :
    s.takeByte n q = s.setSnd n ((s.lane n).snd.offerNext (deadline s.now (s.lane n).takeLimit) q) := by
  unfold State.takeByte
  rw [if_neg h, startLaneTimer_eq_deadline]

/-- The next buffered byte is offered (R116). -/
theorem SendSide.offerNext_cons {x : SendSide} {b : Byte} {rest : List Byte} (h : x.tx = b :: rest) (timer : Option Nat)
    (q : SendRecord) : x.offerNext timer q = { x with
      tx := rest
      data := b
      cur := some { q with offered := q.offered + 1, offering := true }
      takeTimer := timer
      mover := if x.mover = .none ∧ rest.length + 4 ≤ 16 ∧ q.read < q.len then .waiting else x.mover } := by
  unfold SendSide.offerNext SendSide.offer
  rw [h]
  dsimp only
  rw [SendSide.present_some _ _ rfl]

/-- With nothing buffered the side is starved (R116). -/
theorem SendSide.offerNext_nil {x : SendSide} (h : x.tx = []) (timer : Option Nat) (q : SendRecord) :
    x.offerNext timer q = { x with cur := some { q with offering := false }, takeTimer := none } := by
  unfold SendSide.offerNext
  rw [h]

theorem SendSide.offerLine_any (x : SendSide) : x.offerLine = x.cur.any fun q => q.offering := by
  unfold SendSide.offerLine
  cases x.cur <;> rfl

/-- Settles O46: what a pulse meets, and what follows the byte it takes. -/
theorem takeOffersTheNextByte : Obligations.TakeOffersTheNextByte := by
  intro s n x hx
  subst hx
  refine ⟨fun hmode => ?_, fun hmode => ?_, exec_take_ignored, fun q hpulse hcur hoff hmore => ⟨fun b rest htx => ?_, fun htx => ?_⟩⟩
  · have hline : (s.lane n).offersBytes = true := by rcases hmode with h | h <;> rw [Lane.offersBytes, h] <;> rfl
    change Host.Outcome.next (if (s.lane n).offersBytes then _ else s) = _
    rw [if_pos hline, SendSide.offerLine_any]
  · have hline : (s.lane n).offersBytes = false := by rcases hmode with h | h <;> rw [Lane.offersBytes, h] <;> rfl
    change Host.Outcome.next (if (s.lane n).offersBytes then _ else s) = _
    rw [hline]
    rfl
  · refine ⟨_, ?_, rfl, fun hstrobe => ?_⟩
    · rw [exec_take_offered hpulse hcur hoff, State.takeByte_next hmore, State.setSnd_lane_same,
        SendSide.offerNext_cons (by exact htx), State.setSnd_setSnd, ← hoff]
      rfl
    · rw [State.setSnd_lane_same]
      simp [SendSide.markLine, hoff, hstrobe, beq_eq_decide]
  · rw [exec_take_offered hpulse hcur hoff, State.takeByte_next hmore, State.setSnd_lane_same,
      SendSide.offerNext_nil (by exact htx), State.setSnd_setSnd]

/-- What the send side is once its record is complete (R117). -/
theorem State.sendDone_lane (s : State) (n : LaneId) (q : SendRecord) : (s.sendDone n q).lane n = { s.lane n with
    snd := { (s.lane n).snd with cur := none, takeTimer := none, takePulse := none } } := State.setSnd_lane_same ..

/-- A SEND lane goes on with its head entry (R109). -/
theorem State.sendSideFree_send {s : State} {n : LaneId} (h : (s.lane n).mode = .send) : s.sendSideFree n = s.startHead n := by
  unfold State.sendSideFree
  rw [if_neg (by rw [h]; decide)]

/-- A DUPLEX lane's outbound turn ends (R101). -/
theorem State.sendSideFree_duplex {s : State} {n : LaneId} (h : (s.lane n).mode = .duplex) :
    s.sendSideFree n = s.endTurn n .outbound := if_pos h

/-- The take of the last byte (R117). -/
theorem exec_take_last {s : State} {n : LaneId} {q : SendRecord} (hpulse : (s.lane n).snd.takePulse = some true)
    (hcur : (s.lane n).snd.cur = some q) (hoff : q.offering = true) (hlast : q.offered = q.len) :
    exec (.take n) s = .next (s.noting ((s.sendDone n q).sendSideFree n)) := by
  rw [exec_take_offered hpulse hcur hoff, State.takeByte, if_pos hlast, State.recordSent_eq]

/-- Settles O47: the completion, and what the lane goes on with. -/
theorem lastTakeCompletesTheRecord : Obligations.LastTakeCompletesTheRecord := by
  intro s n q x hx hpulse hcur hoff hlast
  subst hx
  have hlane := s.sendDone_lane n q
  rw [exec_take_last hpulse hcur hoff hlast]
  refine ⟨fun hmode hrest => ?_, fun e rest hmode hqueue hstrobe => ?_, fun hmode => ?_⟩
  · rw [State.sendSideFree_send (by rwa [hlane]), State.startHead_none _ _ (by rw [hlane]; exact hrest.imp_right .inr)]
  · rw [State.sendSideFree_send (by rwa [hlane]), State.startHead_eq _ _ e rest (by rwa [hlane]) (by rw [hlane]) (by rwa [hlane])]
  · rw [State.sendSideFree_duplex (by rwa [hlane])]

/-! ### The abort strobe (R94) -/

/-- Settles O48: the strobe's end frees the send side. -/
theorem strobeEndLetsTheLaneGoOn : Obligations.StrobeEndLetsTheLaneGoOn := by
  intro s n d x u hx hstrobe hu
  subst hx
  have hlane : u.lane n = { s.lane n with snd := { (s.lane n).snd with strobe := none } } := by
    rw [hu, State.setSnd_lane_same]
  have hdue (h : d ≤ s.now) : exec (.abortStrobeEnd n) s = .next (s.noting (u.sendSideFree n)) := by
    change Host.Outcome.next (if timerDue s.now (s.lane n).snd.strobe then _ else s) = _
    rw [hstrobe, timerDue_some, if_pos (decide_eq_true h), hu]
  refine ⟨fun hearly => ?_, fun h hmode hrest => ?_, fun e rest h hmode hqueue hcur => ?_, fun h hmode => ?_⟩
  · change Host.Outcome.next (if timerDue s.now (s.lane n).snd.strobe then _ else s) = _
    rw [timerDue_early (.inr ⟨d, hstrobe, hearly⟩), if_neg Bool.false_ne_true]
  · rw [hdue h, State.sendSideFree_send (by rwa [hlane]), State.startHead_none _ _ (by rw [hlane]; exact hrest.imp_right .inl)]
  · rw [hdue h, State.sendSideFree_send (by rwa [hlane]),
      State.startHead_eq _ _ e rest (by rwa [hlane]) (by rwa [hlane]) (by rw [hlane])]
  · rw [hdue h, State.sendSideFree_duplex (by rwa [hlane])]

/-! ### WANT and the turn (R100 to R102) -/

/-- What a lane is once its turn has ended (R101, R102). -/
theorem State.turnOver_lane (s : State) (n : LaneId) (d : Direction) : (s.turnOver n d).lane n = { s.lane n with
    turn := { (s.lane n).turn with turn := .idle, last := d }
    rcv := if d = .inbound then { (s.lane n).rcv with byteTimer := none, markPulse := none } else (s.lane n).rcv } :=
  State.lane_setLane_same ..

/-- Settles O49: WANT's edges and the turn's end, each followed by the arbiter's decision. -/
theorem turnFollowsWantAndTheQueue : Obligations.TurnFollowsWantAndTheQueue := by
  intro s n d
  refine ⟨fun hmode => ⟨congrArg Host.Outcome.next (if_neg hmode), congrArg Host.Outcome.next (if_neg hmode)⟩,
    fun hmode u v w hu hv hw => ?_⟩
  have hulane : u.lane n = { s.lane n with turn := { (s.lane n).turn with want := true } } := by
    rw [hu, State.setTurn_lane_same]
  have hwlane := s.turnOver_lane n d
  rw [← hw] at hwlane
  have hrise : exec (.wantRise n) s = .next (s.noting (u.decideTurn n)) := by
    rw [hu]
    exact congrArg Host.Outcome.next (if_pos hmode)
  have hfall : exec (.wantFall n) s = .next (
      if (s.lane n).turn.turn = .inn ∧ (s.lane n).turn.putSeen = false then s.noting (v.endTurn n .inbound) else v) := by
    rw [hv]
    exact congrArg Host.Outcome.next (if_pos hmode)
  have hend : s.endTurn n d = w.decideTurn n := by rw [hw, State.endTurn_eq]
  refine ⟨fun hturn => ?_, fun hturn hrest => ?_, fun e rest hturn hqueue hlast hcur hstrobe => ?_, fun hturn hput => ?_,
    fun hturn => ?_, fun hwant hqueue => ?_, fun hwant hrest => ?_, fun e rest hqueue hwant hcur hstrobe => ?_⟩
  · rw [hrise, State.decideTurn_none _ _ (.inr (by rwa [hulane]))]
  · rw [hrise, State.decideTurn_in (by rwa [hulane]) (by rwa [hulane]) (by rw [hulane]) (by rwa [hulane])]
  · rw [hrise, State.decideTurn_out (by rwa [hulane]) (by rwa [hulane]) (by rwa [hulane]) (by rwa [hulane]) (by rwa [hulane])
      (by rw [hulane, hlast]; simp)]
  · rw [hfall, if_pos ⟨hturn, hput⟩]
  · rw [hfall, if_neg]
    rintro ⟨hin, hput⟩
    rcases hturn with h | h
    · exact h hin
    · rw [h] at hput
      cases hput
  · rw [hend, State.decideTurn_rest (by rwa [hwlane]) (by rwa [hwlane])]
  · rw [hend, State.decideTurn_in (by rwa [hwlane]) (by rw [hwlane]) (by rwa [hwlane]) (by rwa [hwlane])]
  · rw [hend, State.decideTurn_out (by rwa [hwlane]) (by rw [hwlane]) (by rwa [hwlane]) (by rwa [hwlane]) (by rwa [hwlane])]
    rw [hwlane]
    rintro ⟨hw, hd⟩
    rcases hwant with h | h
    · rw [h] at hw
      cases hw
    · rw [h] at hd
      cases hd

end Sys2Proof.Machine
end

section
/-! SUPPORT. Inbound records (chapter 7): what a consumed entry does by the side's state, end marks and drops, the receive mover's
write, the slot wait, puts, engine aborts and the byte timer (R96 to R99, R125 to R141). -/

namespace Sys2Proof.Machine

/-! ### The last flag (R125, R135) -/

/-- What the last flag of a consumed entry makes of t (R125). -/
def State.afterLast (t : State) (n : LaneId) (last : Bool) : State :=
  if last then t.setRcv n (t.lane n).rcv.endRecord else t

/-- What the last flag makes of a receive side (R125). -/
def RecvSide.afterLast (x : RecvSide) (last : Bool) : RecvSide := if last then x.endRecord else x

theorem State.afterLast_setRcv (s : State) (n : LaneId) (x : RecvSide) (last : Bool) :
    (s.setRcv n x).afterLast n last = s.setRcv n (x.afterLast last) := by
  unfold State.afterLast RecvSide.afterLast
  cases last
  · rfl
  · simp only [if_true, State.setRcv_lane_same, State.setRcv_setRcv]

/-- A record being filled closes with its last byte, and its mover, if it is NONE, presents the next write (R135). -/
theorem RecvSide.afterLast_filling {x : RecvSide} {q : FillRecord} (h : x.state = .filling q) (last : Bool) :
    x.afterLast last = { x with
      state := if last then RecvState.closing q else RecvState.filling q
      mover := if last = true ∧ x.mover = Mover.none then Mover.waiting else x.mover } := by
  unfold RecvSide.afterLast
  cases last
  · simp [← h]
  · simp only [if_true, true_and]
    unfold RecvSide.endRecord
    rw [h]
    simp only [RecvSide.closeStep]
    split <;> rfl

theorem RecvSide.afterLast_slotWait {x : RecvSide} {c : ChanId} (h : x.state = .slotWait c false) (last : Bool) :
    x.afterLast last = { x with state := .slotWait c last } := by
  unfold RecvSide.afterLast
  cases last
  · simp [← h]
  · simp only [if_true]
    unfold RecvSide.endRecord
    rw [h]

theorem RecvSide.afterLast_discarding {x : RecvSide} (h : x.state = .discarding) (last : Bool) :
    x.afterLast last = { x with state := if last then RecvState.idle else RecvState.discarding } := by
  unfold RecvSide.afterLast
  cases last
  · simp [← h]
  · simp only [if_true]
    unfold RecvSide.endRecord
    rw [h]

/-! ### A consumed entry, by the side's state (R125) -/

/-- The end mark of a consumed entry comes after its byte and its last flag (R125). -/
theorem State.consumeEntry_mark (s : State) (n : LaneId) (b : Byte) (last : Bool) (m : EndMark) :
    s.consumeEntry n ⟨b, last, some m⟩ = (s.consumeEntry n ⟨b, last, none⟩).takeMark n m := rfl

theorem State.consumeEntry_idle {s : State} {n : LaneId} (h : (s.lane n).rcv.state = .idle) (b : Byte) (last : Bool) :
    s.consumeEntry n ⟨b, last, none⟩ = (s.routeRecord n b).afterLast n last := by
  unfold State.consumeEntry
  simp only [h]
  rfl

theorem State.consumeEntry_filling {s : State} {n : LaneId} {q : FillRecord} (h : (s.lane n).rcv.state = .filling q) (b : Byte)
    (last : Bool) : s.consumeEntry n ⟨b, last, none⟩ = (s.storeByte n q b).afterLast n last := by
  unfold State.consumeEntry
  simp only [h]
  rfl

theorem State.consumeEntry_other {s : State} {n : LaneId} (hidle : (s.lane n).rcv.state ≠ .idle)
    (hfill : ∀ q, (s.lane n).rcv.state ≠ .filling q) (b : Byte) (last : Bool) :
    s.consumeEntry n ⟨b, last, none⟩ = s.afterLast n last := by
  have hbyte : (match (s.lane n).rcv.state with
      | .idle => s.routeRecord n b
      | .filling r => s.storeByte n r b
      | _ => s) = s := by
    split
    · next h => exact absurd h hidle
    · next q h => exact absurd h (hfill q)
    · rfl
  exact congrArg (fun t : State => t.afterLast n last) hbyte

theorem State.consumeEntry_discarding {s : State} {n : LaneId} (h : (s.lane n).rcv.state = .discarding) (b : Byte)
    (last : Bool) : s.consumeEntry n ⟨b, last, none⟩ = s.afterLast n last :=
  State.consumeEntry_other (by rw [h]; exact nofun) (by rw [h]; exact nofun) b last

/-! ### Routing (R126 to R130) -/

/-- A channel is found by a route code exactly where it serves the lane inbound with that route (R126). -/
theorem State.routed_iff (s : State) (n : LaneId) (code : BitVec 4) (c : ChanId) :
    ((s.chan c).running && (s.chan c).dir == .inbound && (s.chan c).lane == n && (s.chan c).route == code) = true ↔
      s.serves c .inbound n = true ∧ (s.chan c).route = code := by
  unfold State.serves
  rw [Bool.and_eq_true _ ((s.chan c).route == code), beq_iff_eq]

theorem State.routed_none {s : State} {n : LaneId} {code : BitVec 4}
    (h : ∀ c, ¬(s.serves c .inbound n = true ∧ (s.chan c).route = code)) : s.routed n code = none := by
  unfold State.routed
  rw [List.find?_eq_none]
  intro c _
  rw [State.routed_iff]
  exact h c

theorem State.routed_some {s : State} {n : LaneId} {code : BitVec 4} {c : ChanId} (h : s.routed n code = some c) :
    s.serves c .inbound n = true ∧ (s.chan c).route = code := by
  have := List.find?_some h
  rwa [State.routed_iff] at this

theorem State.routed_unique {s : State} {n : LaneId} {code : BitVec 4} {c : ChanId}
    (h : ∀ d, (s.serves d .inbound n = true ∧ (s.chan d).route = code) ↔ d = c) : s.routed n code = some c := by
  cases hr : s.routed n code with
  | some d => rw [(h d).mp (State.routed_some hr)]
  | none =>
    unfold State.routed at hr
    rw [List.find?_eq_none] at hr
    exact absurd ((State.routed_iff ..).mpr ((h c).mpr rfl)) (hr c (mem_allChans c))

/-- The place of slot k on the way round from the fill pointer (R129). -/
theorem circular_place {count ptr k : Nat} (hptr : ptr < count) (hk : k < count) :
    (k + count - ptr) % count < count ∧ (ptr + (k + count - ptr) % count) % count = k := by
  refine ⟨Nat.mod_lt _ (by omega), ?_⟩
  rw [Nat.add_mod_mod, show ptr + (k + count - ptr) = k + count by omega, Nat.add_mod_right, Nat.mod_eq_of_lt hk]

/-- A place on the way round from the fill pointer is the place of its slot. -/
theorem circular_slot {count ptr i : Nat} (hptr : ptr < count) (hi : i < count) :
    ((ptr + i) % count + count - ptr) % count = i := by
  rcases Nat.lt_or_ge (ptr + i) count with h | h
  · rw [Nat.mod_eq_of_lt h, show ptr + i + count - ptr = i + count by omega, Nat.add_mod_right, Nat.mod_eq_of_lt hi]
  · have hmod : (ptr + i) % count = ptr + i - count := by
      rw [Nat.mod_eq_sub_mod h, Nat.mod_eq_of_lt (by omega)]
    rw [hmod, show ptr + i - count + count - ptr = i by omega, Nat.mod_eq_of_lt hi]

/-- The search finds the FREE slot that comes first from the fill pointer (R129). -/
theorem Channel.findFree_some {ch : Channel} {k : Nat} (hptr : ch.fillPtr < ch.count.toNat) (hk : k < ch.count.toNat)
    (hfree : (ch.slot k).state = .free) (hfirst : ∀ j, j < ch.count.toNat → (ch.slot j).state = .free →
      (k + ch.count.toNat - ch.fillPtr) % ch.count.toNat ≤ (j + ch.count.toNat - ch.fillPtr) % ch.count.toNat) :
    ch.findFree = some k := by
  obtain ⟨hplace, hslot⟩ := circular_place hptr hk
  unfold Channel.findFree
  rw [List.find?_map, List.find?_range_eq_some.mpr ⟨?_, List.mem_range.mpr hplace, fun i hi => ?_⟩]
  · exact congrArg some hslot
  · simp only [Function.comp_apply, hslot, hfree, beq_self_eq_true]
  · simp only [Function.comp_apply, Bool.not_eq_true', beq_eq_false_iff_ne]
    intro hi'
    have hlt : i < ch.count.toNat := by omega
    have := hfirst _ (Nat.mod_lt (ch.fillPtr + i) (by omega)) hi'
    rw [circular_slot hptr hlt] at this
    omega

/-- A slot that the search finds is FREE and one of the channel's (R129). -/
theorem Channel.free_of_findFree {ch : Channel} {k : Nat} (h : ch.findFree = some k) :
    k < ch.count.toNat ∧ (ch.slot k).state = .free := by
  have hmem := List.mem_of_find?_eq_some h
  have hfree := List.find?_some h
  rw [List.mem_map] at hmem
  obtain ⟨i, hi, rfl⟩ := hmem
  exact ⟨Nat.mod_lt _ (by rw [List.mem_range] at hi; omega), eq_of_beq hfree⟩

theorem Channel.findFree_none {ch : Channel} (h : ∀ j, j < ch.count.toNat → (ch.slot j).state ≠ .free) :
    ch.findFree = none := by
  cases hf : ch.findFree with
  | none => rfl
  | some k =>
    obtain ⟨hk, hfree⟩ := Channel.free_of_findFree hf
    exact absurd hfree (h k hk)

/-- A picked slot is FILLING, with the fill pointer past it and the side R_FILLING (R129). -/
theorem State.pick_eq (s : State) (n : LaneId) (c : ChanId) (k : Nat) :
    s.pick n c k = (s.setChan c { s.chan c with
      slots := (s.chan c).slots.set k ⟨.filling, 0, 0⟩
      fillPtr := (k + 1) % (s.chan c).count.toNat }).setRcv n { (s.lane n).rcv with
        state := .filling ⟨c, k, false⟩, gather := [], slotWaitTimer := none } := by
  unfold State.pick
  dsimp only
  rw [State.setSlot_chan_same, State.setSlot, State.setChan_setChan]
  rfl

/-- A route byte that misses is reported under MISS_NOTE and discarded (R127). -/
theorem State.routeRecord_miss {s : State} {n : LaneId} {b : Byte} (h : s.routed n (b.extractLsb' 0 4) = none) :
    s.routeRecord n b = { s.setRcv n { (s.lane n).rcv with state := .discarding } with
      nu := s.reported (s.lane n).missNote .routeMiss (BitVec.ofNat 8 (0x10 + n.val)) 0xFF 0
        ((b.extractLsb' 0 4).setWidth 16) } := by
  unfold State.routeRecord
  dsimp only
  rw [h]
  dsimp only
  cases (s.lane n).missNote
  · rw [State.reported_false]
    rfl
  · rw [if_pos rfl, State.generate_eq]
    rfl

theorem State.routeRecord_pick {s : State} {n : LaneId} {b : Byte} {c : ChanId} {k : Nat}
    (h : s.routed n (b.extractLsb' 0 4) = some c) (hk : (s.chan c).findFree = some k) : s.routeRecord n b = s.pick n c k := by
  unfold State.routeRecord
  dsimp only
  rw [h]
  dsimp only
  rw [hk]

theorem State.routeRecord_wait {s : State} {n : LaneId} {b : Byte} {c : ChanId}
    (h : s.routed n (b.extractLsb' 0 4) = some c) (hk : (s.chan c).findFree = none) :
    s.routeRecord n b = s.setRcv n { (s.lane n).rcv with
      state := .slotWait c false, slotWaitTimer := deadline s.now (s.lane n).slotWait } := by
  unfold State.routeRecord
  dsimp only
  rw [h]
  dsimp only
  rw [hk]
  dsimp only
  rw [startLaneTimer_eq_deadline]

theorem State.storeByte_room {s : State} {n : LaneId} {q : FillRecord}
    (h : (s.slot q.chan q.slot).len < (s.chan q.chan).capacity) (b : Byte) :
    s.storeByte n q b = (s.setSlot q.chan q.slot { s.slot q.chan q.slot with
      len := (s.slot q.chan q.slot).len + 1 }).setRcv n { (s.lane n).rcv with
        gather := (s.lane n).rcv.gather ++ [b]
        mover := if (s.lane n).rcv.gather.length + 1 = 4 then .waiting else (s.lane n).rcv.mover } := if_pos h

theorem State.storeByte_full {s : State} {n : LaneId} {q : FillRecord}
    (h : (s.chan q.chan).capacity ≤ (s.slot q.chan q.slot).len) (b : Byte) :
    s.storeByte n q b = s.setRcv n { (s.lane n).rcv with state := .filling { q with truncated := true } } :=
  if_neg (Nat.not_lt.mpr h)

/-- Settles O51: the side's state, then the last flag, then the end mark. -/
theorem consumedEntryActsByTheState : Obligations.ConsumedEntryActsByTheState := by
  intro s n b last x hx
  subst hx
  refine ⟨s.consumeEntry_mark n b last, fun hidle code hcode => ⟨fun hmiss => ?_, fun c hc hptr =>
    ⟨fun k hk hfree hfirst => ?_, fun hnone => ?_⟩⟩, fun q hfill => ⟨fun hroom mover hmover => ?_, fun hfull => ?_⟩,
    fun hdiscard => ?_⟩
  · subst hcode
    rw [State.consumeEntry_idle hidle, State.routeRecord_miss (State.routed_none hmiss)]
    have key := State.afterLast_setRcv s n { (s.lane n).rcv with state := .discarding } last
    rw [RecvSide.afterLast_discarding rfl] at key
    rw [← key]
    unfold State.afterLast
    cases last <;> rfl
  · subst hcode
    rw [State.consumeEntry_idle hidle, State.routeRecord_pick (State.routed_unique hc)
      (Channel.findFree_some hptr hk hfree hfirst), State.pick_eq, State.afterLast_setRcv, RecvSide.afterLast_filling rfl]
  · subst hcode
    rw [State.consumeEntry_idle hidle, State.routeRecord_wait (State.routed_unique hc) (Channel.findFree_none hnone),
      State.afterLast_setRcv, RecvSide.afterLast_slotWait rfl]
  · subst hmover
    rw [State.consumeEntry_filling hfill, State.storeByte_room hroom, State.afterLast_setRcv,
      RecvSide.afterLast_filling (by exact hfill)]
  · rw [State.consumeEntry_filling hfill, State.storeByte_full hfull, State.afterLast_setRcv, RecvSide.afterLast_filling rfl]
  · rw [State.consumeEntry_discarding hdiscard, ← State.setRcv_rcv s n, State.afterLast_setRcv, State.setRcv_rcv,
      RecvSide.afterLast_discarding hdiscard]

/-! ### End marks (R137, R138) -/

theorem State.takeMark_filling {s : State} {n : LaneId} {q : FillRecord} (h : (s.lane n).rcv.state = .filling q) (m : EndMark) :
    s.takeMark n m = s.dropped n q m.detail .idle := by
  unfold State.takeMark
  rw [h, ← State.dropRecord_eq]

theorem State.takeMark_slotWait {s : State} {n : LaneId} {c : ChanId} (h : (s.lane n).rcv.state = .slotWait c false)
    (m : EndMark) : s.takeMark n m = s.dropWaiting n c m.detail .idle := by
  unfold State.takeMark
  rw [h]
  rfl

theorem State.takeMark_discarding {s : State} {n : LaneId} (h : (s.lane n).rcv.state = .discarding) (m : EndMark) :
    s.takeMark n m = s.setRcv n { (s.lane n).rcv with state := .idle } := by
  unfold State.takeMark
  rw [h]

/-- An end mark is ignored once the record has ended, and between records (R137). -/
theorem State.takeMark_ignored {s : State} {n : LaneId} (h : (∃ c, (s.lane n).rcv.state = .slotWait c true) ∨
    (∃ q, (s.lane n).rcv.state = .closing q) ∨ (s.lane n).rcv.state = .idle) (m : EndMark) : s.takeMark n m = s := by
  unfold State.takeMark
  rcases h with ⟨c, h⟩ | ⟨q, h⟩ | h <;> rw [h]
  rfl

/-- Settles O52: the end mark by the side's state. -/
theorem endMarkDropsTheRecord : Obligations.EndMarkDropsTheRecord := by
  intro s n m detail x hx hdetail
  subst hx
  have hm : m.detail = detail := by
    rcases hdetail with ⟨rfl, rfl⟩ | ⟨rfl, rfl⟩ | ⟨rfl, rfl⟩ <;> rfl
  subst hm
  exact ⟨fun q h => State.takeMark_filling h m, fun c h => by rw [State.takeMark_slotWait h, State.dropWaiting_eq],
    fun h => State.takeMark_discarding h m, fun h => State.takeMark_ignored h m⟩

/-! ### The slot wait (R131) -/

/-- Settles O54: the timer is due, or the command is no event. -/
theorem slotWaitExpiryDropsTheRecord : Obligations.SlotWaitExpiryDropsTheRecord := by
  intro s n c ended d x hx hstate htimer
  subst hx
  have hexec : exec (.slotWaitExpiry n) s = .next (if timerDue s.now (s.lane n).rcv.slotWaitTimer then
      s.noting ((s.dropWaiting n c 5 (if ended then .idle else .discarding)).drain n) else s) := by
    unfold exec execSlotWaitExpiry
    simp only [hstate]
  rw [hexec, htimer, timerDue_some]
  refine ⟨fun hearly => ?_, fun hdue => ?_⟩
  · rw [if_neg (by rw [decide_eq_true_iff]; omega)]
  · rw [if_pos (decide_eq_true hdue), State.dropWaiting_eq]

end Sys2Proof.Machine
end

section
/-! SUPPORT. The receive mover's write, puts, engine aborts, the byte timer and the notice writer's words (R96 to R99, R133, R136,
R139, R167 to R169). -/

namespace Sys2Proof.Machine

/-! ### Consumption (R125) -/

/-- A side that does not consume, or has nothing to consume, rests (R125). -/
theorem State.drain_rests {s : State} {n : LaneId} (h : (s.lane n).rcv.consumes = false ∨ (s.lane n).rcv.rx = []) :
    s.drain n = s := by
  unfold State.drain
  cases hrx : (s.lane n).rcv.rx with
  | nil => rfl
  | cons e rest =>
    have hc : (s.lane n).rcv.consumes = false := h.resolve_right (by rw [hrx]; exact List.cons_ne_nil e rest)
    simp only [List.length_cons, State.consume, hrx, hc, Bool.false_eq_true, if_false]

theorem State.dropped_rx (s : State) (n : LaneId) (q : FillRecord) (detail : BitVec 16) (after : RecvState) :
    ((s.dropped n q detail after).lane n).rcv.rx = (s.lane n).rcv.rx := by
  unfold State.dropped
  change ((s.setRcv n _).lane n).rcv.rx = _
  rw [State.setRcv_lane_same]

theorem State.takeMark_rx (s : State) (n : LaneId) (m : EndMark) : ((s.takeMark n m).lane n).rcv.rx = (s.lane n).rcv.rx := by
  unfold State.takeMark
  split
  · rw [State.dropRecord_eq, State.dropped_rx]
  · split
    · rfl
    · rw [State.dropWaiting_eq]
      change ((s.setRcv n _).lane n).rcv.rx = _
      rw [State.setRcv_lane_same]
  · rw [State.setRcv_lane_same]
  · rfl
  · rfl

theorem State.routeRecord_rx (s : State) (n : LaneId) (b : Byte) : ((s.routeRecord n b).lane n).rcv.rx = (s.lane n).rcv.rx := by
  cases hr : s.routed n (b.extractLsb' 0 4) with
  | none =>
    rw [State.routeRecord_miss hr]
    change ((s.setRcv n _).lane n).rcv.rx = _
    rw [State.setRcv_lane_same]
  | some c =>
    cases hk : (s.chan c).findFree with
    | none => rw [State.routeRecord_wait hr hk, State.setRcv_lane_same]
    | some k => rw [State.routeRecord_pick hr hk, State.pick_eq, State.setRcv_lane_same]

theorem State.storeByte_rx (s : State) (n : LaneId) (q : FillRecord) (b : Byte) :
    ((s.storeByte n q b).lane n).rcv.rx = (s.lane n).rcv.rx := by
  rcases Nat.lt_or_ge (s.slot q.chan q.slot).len (s.chan q.chan).capacity with h | h
  · rw [State.storeByte_room h, State.setRcv_lane_same]
  · rw [State.storeByte_full h, State.setRcv_lane_same]

theorem RecvSide.closeStep_rx (x : RecvSide) : x.closeStep.rx = x.rx := by
  unfold RecvSide.closeStep
  split
  · split <;> rfl
  · rfl

theorem RecvSide.afterLast_rx (x : RecvSide) (last : Bool) : (x.afterLast last).rx = x.rx := by
  cases last
  · rfl
  · change x.endRecord.rx = x.rx
    unfold RecvSide.endRecord
    split
    · exact RecvSide.closeStep_rx _
    all_goals rfl

theorem State.afterLast_lane (t : State) (n : LaneId) (last : Bool) :
    (t.afterLast n last).lane n = { t.lane n with rcv := (t.lane n).rcv.afterLast last } := by
  rw [← State.setRcv_lane_same t n, ← State.afterLast_setRcv, State.setRcv_rcv]

/-- A consumed entry leaves the entries behind it (R125). -/
theorem State.consumeEntry_rx (s : State) (n : LaneId) (e : RxEntry) :
    ((s.consumeEntry n e).lane n).rcv.rx = (s.lane n).rcv.rx := by
  obtain ⟨b, last, mark⟩ := e
  have unmarked : ((s.consumeEntry n ⟨b, last, none⟩).lane n).rcv.rx = (s.lane n).rcv.rx := by
    have key : ∀ t : State, (t.lane n).rcv.rx = (s.lane n).rcv.rx → ((t.afterLast n last).lane n).rcv.rx = (s.lane n).rcv.rx := by
      intro t ht
      rw [State.afterLast_lane]
      exact (RecvSide.afterLast_rx _ last).trans ht
    cases hstate : (s.lane n).rcv.state with
    | idle =>
      rw [State.consumeEntry_idle hstate]
      exact key _ (s.routeRecord_rx n b)
    | filling q =>
      rw [State.consumeEntry_filling hstate]
      exact key _ (s.storeByte_rx n q b)
    | slotWait | closing | discarding =>
      rw [State.consumeEntry_other (by rw [hstate]; exact nofun) (by rw [hstate]; exact nofun)]
      exact key s rfl
  cases mark with
  | none => exact unmarked
  | some m => rw [State.consumeEntry_mark, State.takeMark_rx, unmarked]

theorem State.popRx_lane (s : State) (n : LaneId) (rest : List RxEntry) : (s.popRx n rest).lane n = { s.lane n with
    rcv := { (s.lane n).rcv with
      rx := rest
      byteTimer := if (s.lane n).rcv.rx.length = 16 then (s.lane n).roomTimer s.now else (s.lane n).rcv.byteTimer } } :=
  State.setRcv_lane_same ..

/-- A side that consumes takes its head entry, and then what it can (R125). -/
theorem State.drain_cons {s : State} {n : LaneId} {e : RxEntry} {rest : List RxEntry} (hc : (s.lane n).rcv.consumes = true)
    (hrx : (s.lane n).rcv.rx = e :: rest) : s.drain n = ((s.popRx n rest).consumeEntry n e).drain n := by
  unfold State.drain
  rw [State.consumeEntry_rx, State.popRx_lane, hrx]
  simp only [List.length_cons, State.consume, hrx, hc, if_true]

/-! ### The receive mover's write (R133, R136, R139) -/

/-- The completion of a write for the record in progress (R133). -/
theorem exec_recvWrite_busy {s : State} {n : LaneId} {a : MemAccess} (hport : s.arb.port = some ⟨.recv n, a⟩)
    (hbusy : (s.lane n).rcv.mover = .busy) (merr : Bool) :
    exec (.receiveMoverWriteCompletion merr) s =
      .next ((if merr then s.freePort.recvWriteError n else s.freePort.recvWriteDone n).resumeRecv n) := by
  unfold exec execReceiveMoverWriteCompletion
  simp only [hport, hbusy]

/-- The completion of an orphaned write (R139). -/
theorem exec_recvWrite_orphaned {s : State} {n : LaneId} {a : MemAccess} (hport : s.arb.port = some ⟨.recv n, a⟩)
    (horphan : (s.lane n).rcv.mover = .orphaned) (merr : Bool) :
    exec (.receiveMoverWriteCompletion merr) s =
      .next ((s.freePort.setRcv n { (s.lane n).rcv with mover := .none }).resumeRecv n) := by
  unfold exec execReceiveMoverWriteCompletion
  simp only [hport, horphan]

/-- A side that is not closing takes no close step (R135). -/
theorem RecvSide.closeStep_none {x : RecvSide} (h : ∀ q, x.state ≠ .closing q) : x.closeStep = x := by
  unfold RecvSide.closeStep
  split
  · next q hq => exact absurd hq (h q)
  · rfl

theorem RecvState.code_eq_three (st : RecvState) : st.code = 3 ↔ ∃ q, st = .closing q := by
  cases st <;> simp [RecvState.code]

/-- A mover that has become NONE presents the next write of a close (R135). -/
theorem RecvSide.closeStep_of_none (x : RecvSide) : ({ x with mover := .none } : RecvSide).closeStep = { x with
    mover := if x.state.code = 3 then .waiting else .none } := by
  unfold RecvSide.closeStep
  split
  · next q hq =>
    have hcode : x.state.code = 3 := (RecvState.code_eq_three _).mpr ⟨q, hq⟩
    rw [if_pos rfl, if_pos hcode]
  · next hother => rw [if_neg (by rw [RecvState.code_eq_three]; exact fun ⟨q, hq⟩ => hother q hq)]

/-- A side that is not closing consumes on (R133). -/
theorem State.resumeRecv_drain {s : State} {n : LaneId} (h : ∀ q, (s.lane n).rcv.state ≠ .closing q) :
    s.resumeRecv n = s.drain n := by
  unfold State.resumeRecv
  rw [RecvSide.closeStep_none h, State.setRcv_rcv]

/-- A closing side with the mover NONE presents the next write, and consumes nothing (R135). -/
theorem State.resumeRecv_closing {s : State} {n : LaneId} {q : FillRecord} (h : (s.lane n).rcv.state = .closing q)
    (hmover : (s.lane n).rcv.mover = .none) :
    s.resumeRecv n = s.setRcv n { (s.lane n).rcv with mover := .waiting } := by
  have hstep : (s.lane n).rcv.closeStep = { (s.lane n).rcv with mover := .waiting } := by
    unfold RecvSide.closeStep
    split
    · exact if_pos hmover
    · next hother => exact absurd h (hother q)
  unfold State.resumeRecv
  rw [hstep]
  refine State.drain_rests (.inl ?_)
  rw [State.setRcv_lane_same]
  unfold RecvSide.consumes
  dsimp only
  rw [h]

/-- A dropped record leaves no trace of what was gathered. -/
theorem State.dropped_setRcv_gather (s : State) (n : LaneId) (x : RecvSide) (q : FillRecord) (detail : BitVec 16)
    (after : RecvState) :
    (s.setRcv n { x with gather := [] }).dropped n q detail after = (s.setRcv n x).dropped n q detail after := by
  unfold State.dropped
  simp only [State.setRcv_lane_same, State.setRcv_chan, State.setRcv_setRcv]
  congr 1
  apply State.wakeSlot_host_congr <;> rfl

theorem State.dropped_state (s : State) (n : LaneId) (q : FillRecord) (detail : BitVec 16) (after : RecvState) :
    ((s.dropped n q detail after).lane n).rcv.state = after := by
  unfold State.dropped
  change ((s.setRcv n _).lane n).rcv.state = _
  rw [State.setRcv_lane_same]

/-- MERR drops the record, and the side goes on (R139). -/
theorem State.recvWriteError_resume {s : State} {n : LaneId} {q : FillRecord} {after : RecvState}
    (h : (s.lane n).rcv.state = .filling q ∧ after = .discarding ∨ (s.lane n).rcv.state = .closing q ∧ after = .idle) :
    (s.recvWriteError n).resumeRecv n = ((s.setRcv n { (s.lane n).rcv with mover := .none }).dropped n q 4 after).drain n := by
  have key : s.recvWriteError n = (s.setRcv n { (s.lane n).rcv with mover := .none }).dropped n q 4 after := by
    have hdrop := State.dropped_setRcv_gather s n { (s.lane n).rcv with mover := .none } q 4
    unfold State.recvWriteError
    dsimp only
    split
    · next p hp =>
      rw [hp] at h
      obtain ⟨⟨rfl⟩, rfl⟩ := h.resolve_right (by rintro ⟨hc, _⟩; cases hc)
      rw [State.dropRecord_eq]
      exact hdrop _
    · next p hp =>
      rw [hp] at h
      obtain ⟨⟨rfl⟩, rfl⟩ := h.resolve_left (by rintro ⟨hc, _⟩; cases hc)
      rw [State.dropRecord_eq]
      exact hdrop _
    · next hfill hclose =>
      rcases h with ⟨h, _⟩ | ⟨h, _⟩
      · exact absurd h (hfill q)
      · exact absurd h (hclose q)
  rw [key, State.resumeRecv_drain]
  intro p
  rw [State.dropped_state]
  rcases h with ⟨_, rfl⟩ | ⟨_, rfl⟩ <;> exact nofun

/-- RX_READY's detail as a number (R141). -/
theorem readyDetail_eq (len : Nat) (truncated : Bool) :
    readyDetail len truncated = BitVec.ofNat 16 (len % 2 ^ 12 + if truncated then 2 ^ 15 else 0) := by
  have hlow : len % 2 ^ 12 < 2 ^ 15 := by omega
  apply BitVec.eq_of_toNat_eq
  simp only [readyDetail, BitVec.toNat_or, BitVec.toNat_shiftLeft, BitVec.toNat_setWidth, BitVec.toNat_ofNat, Nat.shiftLeft_eq]
  cases truncated
  · simp only [BitVec.ofBool, Bool.false_eq_true, if_false]
    simp
  · simp only [BitVec.ofBool, if_true, cond_true]
    have h1 : len % 2 ^ 12 % 2 ^ 16 = len % 2 ^ 12 := by omega
    have h2 : BitVec.toNat (1 : BitVec 1) % 2 ^ 16 * 2 ^ 15 % 2 ^ 16 = 1 * 2 ^ 15 := by decide
    rw [h1, h2, Nat.or_comm, ← Nat.shiftLeft_eq, ← Nat.shiftLeft_add_eq_or_of_lt hlow, Nat.shiftLeft_eq]
    omega

/-- A record whose header is written (R136, R141). -/
theorem State.recordReady_eq (s : State) (n : LaneId) (q : FillRecord) :
    s.recordReady n q = { (s.setRcv n { (s.lane n).rcv with state := .idle, mover := .none }).setChan q.chan { s.chan q.chan with
        slots := (s.chan q.chan).slots.set q.slot ⟨.ready, (s.slot q.chan q.slot).len, (s.chan q.chan).seqCtr⟩
        seqCtr := (s.chan q.chan).seqCtr + 1
        done := (s.chan q.chan).done + 1 } with
      host := (s.wakeSlot q.chan q.slot).host
      nu := s.reported ((s.chan q.chan).enables.getLsbD 2) .rxReady (BitVec.ofNat 8 q.chan.val) (BitVec.ofNat 8 q.slot)
        (s.chan q.chan).seqCtr (BitVec.ofNat 16 ((s.slot q.chan q.slot).len % 2 ^ 12 + if q.truncated then 2 ^ 15 else 0)) } := by
  unfold State.recordReady
  dsimp only
  rw [State.wakeSlot_eq, State.chanNotice_eq, readyDetail_eq]
  simp only [State.countDone, State.setSlot, State.setRcv, State.setLane, State.setChan, State.chan, State.slot, State.lane,
    Channel.enabled, NoticeKind.enableBit, Vector.set_set, Vector.getElem_set_self, Fin.getElem_fin, State.reported, chanSource]
  congr 1
  apply State.wakeSlot_host_congr <;> rfl

/-- A payload word of a record being filled is written (R133). -/
theorem State.recvWriteDone_filling {s : State} {n : LaneId} {q : FillRecord} (h : (s.lane n).rcv.state = .filling q) :
    s.recvWriteDone n = s.setRcv n { (s.lane n).rcv with gather := [], mover := .none } := by
  unfold State.recvWriteDone
  dsimp only
  split
  · next p hp =>
    rw [h] at hp
    cases hp
  · rfl

/-- The last payload word of a closing record is written (R135). -/
theorem State.recvWriteDone_word {s : State} {n : LaneId} (hgather : (s.lane n).rcv.gather ≠ []) :
    s.recvWriteDone n = s.setRcv n { (s.lane n).rcv with gather := [], mover := .none } := by
  unfold State.recvWriteDone
  dsimp only
  split
  · exact if_neg (by rwa [List.isEmpty_iff])
  · rfl

/-- The header of a closing record is written (R136). -/
theorem State.recvWriteDone_header {s : State} {n : LaneId} {q : FillRecord} (h : (s.lane n).rcv.state = .closing q)
    (hgather : (s.lane n).rcv.gather = []) : s.recvWriteDone n = s.recordReady n q := by
  unfold State.recvWriteDone
  dsimp only
  split
  · next p hp =>
    rw [h] at hp
    cases hp
    exact if_pos (by rw [hgather]; rfl)
  · next hother => exact absurd h (hother q)

/-- Settles O55: a payload word, the header, MERR, and an orphaned write. -/
theorem receiveWriteCompletes : Obligations.ReceiveWriteCompletes := by
  intro s u n a merr x hx hport hu
  subst hx hu
  refine ⟨fun q hbusy hfill => ⟨?_, ?_⟩, fun q hbusy hclose => ⟨fun hgather => ?_, fun hgather sl ch hsl hch => ?_, ?_⟩,
    fun horphan => ?_⟩
  · rw [exec_recvWrite_busy hport hbusy, if_neg Bool.false_ne_true, State.recvWriteDone_filling (s := s.freePort) hfill,
      State.resumeRecv_drain]
    · rfl
    · intro p
      rw [State.setRcv_lane_same]
      change (s.lane n).rcv.state ≠ _
      rw [hfill]
      exact nofun
  · rw [exec_recvWrite_busy hport hbusy, if_pos rfl, State.recvWriteError_resume (s := s.freePort) (.inl ⟨hfill, rfl⟩)]
    rfl
  · rw [exec_recvWrite_busy hport hbusy, if_neg Bool.false_ne_true, State.recvWriteDone_word (s := s.freePort) hgather,
      State.resumeRecv_closing (q := q)]
    · rw [State.setRcv_lane_same, State.setRcv_setRcv]
      rfl
    · rw [State.setRcv_lane_same]
      exact hclose
    · rw [State.setRcv_lane_same]
  · subst hsl hch
    have hwake : (s.freePort.wakeSlot q.chan q.slot).host = (s.wakeSlot q.chan q.slot).host :=
      State.wakeSlot_host_congr (s := s.freePort) (t := s) rfl rfl ..
    rw [exec_recvWrite_busy hport hbusy, if_neg Bool.false_ne_true, State.recvWriteDone_header (s := s.freePort) hclose hgather,
      State.recordReady_eq, hwake, State.resumeRecv_drain]
    · rfl
    · intro p
      change ((State.setRcv s.freePort n _).lane n).rcv.state ≠ _
      rw [State.setRcv_lane_same]
      exact nofun
  · rw [exec_recvWrite_busy hport hbusy, if_pos rfl, State.recvWriteError_resume (s := s.freePort) (.inr ⟨hclose, rfl⟩)]
    rfl
  · rw [exec_recvWrite_orphaned hport horphan, State.resumeRecv, State.setRcv_lane_same, RecvSide.closeStep_of_none,
      State.setRcv_setRcv]
    rfl

end Sys2Proof.Machine
end

section
/-! SUPPORT. Puts, engine aborts, the byte timer and the notice writer's words (R96 to R99, R102, R167 to R169). -/

namespace Sys2Proof.Machine

/-! ### End marks on the buffer (R95) -/

theorem attachMark_append (m : EndMark) (front : List RxEntry) (e : RxEntry) :
    attachMark m (front ++ [e]) = front ++ [{ e with mark := some m }] := by
  induction front with
  | nil => rfl
  | cons a front ih =>
    obtain ⟨b, rest, hrest⟩ := List.exists_cons_of_ne_nil (List.append_ne_nil_of_right_ne_nil front (List.cons_ne_nil e []))
    rw [hrest] at ih
    rw [List.cons_append, List.cons_append, ← ih, hrest]
    rfl

theorem tailMarked_append (front : List RxEntry) (e : RxEntry) : tailMarked (front ++ [e]) = e.mark.isSome := by
  simp [tailMarked]

/-- With nothing buffered a mark goes to the receive side at once (R95). -/
theorem State.recordMark_nil {s : State} {n : LaneId} (h : (s.lane n).rcv.rx = []) (m : EndMark) :
    s.recordMark n m = s.takeMark n m := if_pos (by rw [h]; rfl)

/-- A mark goes on the tail entry (R95). -/
theorem State.recordMark_tail {s : State} {n : LaneId} {front : List RxEntry} {e : RxEntry}
    (h : (s.lane n).rcv.rx = front ++ [e]) (m : EndMark) : s.recordMark n m = s.setRcv n { (s.lane n).rcv with
      rx := front ++ [{ e with mark := some m }] } := by
  unfold State.recordMark
  dsimp only
  rw [h, if_neg (by simp), attachMark_append]

/-! ### Engine aborts (R98) -/

/-- The lane takes puts in RECEIVE, and in DUPLEX in T_IN (R96). -/
theorem Lane.takesPuts_iff (l : Lane) :
    l.takesPuts = true ↔ l.mode = .receive ∨ (l.mode = .duplex ∧ l.turn.turn = .inn) := by
  unfold Lane.takesPuts
  rw [Bool.or_eq_true, Bool.and_eq_true, beq_iff_eq, beq_iff_eq, beq_iff_eq]

/-- A pulse that is no abort is seen no more (R98). -/
theorem exec_engineAbort_ignored {s : State} {n : LaneId}
    (h : (s.lane n).takesPuts = false ∨ (s.lane n).rcv.markPulse ≠ some false) :
    exec (.engineAbort n) s = .next (s.setRcv n { (s.lane n).rcv with markPulse := none }) := by
  refine congrArg Host.Outcome.next (if_neg ?_)
  rw [Bool.and_eq_true, beq_iff_eq]
  rintro ⟨htakes, hpulse⟩
  rcases h with h | h
  · rw [h] at htakes
    cases htakes
  · exact h hpulse

/-- An engine abort, and in T_IN the turn's end (R98, R102). -/
theorem exec_engineAbort_seen {s u v : State} {n : LaneId} (htakes : (s.lane n).takesPuts = true)
    (hpulse : (s.lane n).rcv.markPulse = some false)
    (hu : (s.setRcv n { (s.lane n).rcv with markPulse := none }).engineAborts n = u)
    (hv : v = if (s.lane n).mode = .duplex then u.endTurn n .inbound else u) :
    exec (.engineAbort n) s = .next (s.noting v) := by
  rw [hv, ← hu]
  refine congrArg Host.Outcome.next (if_pos ?_)
  rw [htakes, hpulse]
  rfl

/-- Within a record an abort is recorded (R98). -/
theorem State.engineAborts_record {s : State} {n : LaneId} (h : (s.lane n).rcv.putState = .record) :
    s.engineAborts n = (s.setRcv n { (s.lane n).rcv with putState := .gap, byteTimer := none }).recordMark n .abort := by
  unfold State.engineAborts
  simp only [h]

theorem State.engineAborts_skip {s : State} {n : LaneId} (h : (s.lane n).rcv.putState = .skip) :
    s.engineAborts n = s.setRcv n { (s.lane n).rcv with putState := .gap, byteTimer := none } := by
  unfold State.engineAborts
  simp only [h]

/-- Between records an abort marks a tail that has no mark yet (R98). -/
theorem State.engineAborts_gap {s : State} {n : LaneId} (h : (s.lane n).rcv.putState = .gap) :
    s.engineAborts n = if tailMarked (s.lane n).rcv.rx then s else s.recordMark n .abort := by
  unfold State.engineAborts
  simp only [h]

/-! ### The byte timer (R99) -/

/-- A due byte timer ends the record being put, and in T_IN the turn (R99, R102). -/
theorem exec_byteTimerExpiry_due {s u v : State} {n : LaneId} {d : Nat} (htimer : (s.lane n).rcv.byteTimer = some d)
    (hdue : d ≤ s.now) (hu : s.byteTimedOut n = u)
    (hv : v = if (s.lane n).mode = .duplex ∧ (s.lane n).turn.turn = .inn then u.endTurn n .inbound else u) :
    exec (.byteTimerExpiry n) s = .next (s.noting v) := by
  rw [hv, ← hu]
  exact congrArg Host.Outcome.next (if_pos (by rw [htimer, timerDue_some, decide_eq_true hdue]))

theorem State.byteTimedOut_record {s : State} {n : LaneId} (h : (s.lane n).rcv.putState = .record) :
    s.byteTimedOut n = (s.setRcv n { (s.lane n).rcv with putState := .gap, byteTimer := none }).recordMark n .timeout := by
  unfold State.byteTimedOut
  simp only [h]

theorem State.byteTimedOut_other {s : State} {n : LaneId} (h : (s.lane n).rcv.putState ≠ .record) :
    s.byteTimedOut n = s.setRcv n { (s.lane n).rcv with putState := .gap, byteTimer := none } := by
  unfold State.byteTimedOut
  dsimp only
  split
  · next hr => exact absurd hr h
  · rfl

/-- Settles O53: the pulse's start, the abort by the put state, and the timer's expiry by the put state. -/
theorem abortAndByteTimerMarkTheRecord : Obligations.AbortAndByteTimerMarkTheRecord := by
  intro s n x takes hx htakes
  subst hx
  change takes = (s.lane n).takesPuts at htakes
  refine ⟨fun put => by rw [htakes]; rfl, fun h => exec_engineAbort_ignored (by rwa [← htakes]),
    fun u v hv ht hpulse => ⟨fun hput hu => ?_, fun hput hrx hu => ?_, fun hput hrx hu => ?_, fun front e hrx =>
      ⟨fun hput hu => ?_, fun hput hu => ?_⟩⟩,
    fun d u v htimer hv => ⟨fun hearly => ?_, fun hdue hput hu => ?_, fun hdue hput hrx hu => ?_, fun front e hdue hput hrx hu => ?_⟩⟩
  · rw [htakes] at ht
    refine exec_engineAbort_seen ht hpulse ?_ hv
    rw [hu, State.engineAborts_skip (by rw [State.setRcv_lane_same]; exact hput), State.setRcv_lane_same, State.setRcv_setRcv]
  · rw [htakes] at ht
    refine exec_engineAbort_seen ht hpulse ?_ hv
    rw [hu, State.engineAborts_record (by rw [State.setRcv_lane_same]; exact hput), State.setRcv_lane_same, State.setRcv_setRcv,
      State.recordMark_nil (by rw [State.setRcv_lane_same]; exact hrx)]
  · rw [htakes] at ht
    refine exec_engineAbort_seen ht hpulse ?_ hv
    have hrx' : ((s.setRcv n { (s.lane n).rcv with markPulse := none }).lane n).rcv.rx = [] := by
      rw [State.setRcv_lane_same]
      exact hrx
    rw [hu, State.engineAborts_gap (by rw [State.setRcv_lane_same]; exact hput), hrx', State.recordMark_nil hrx']
    rfl
  · rw [htakes] at ht
    refine exec_engineAbort_seen ht hpulse ?_ hv
    rw [hu, State.engineAborts_record (by rw [State.setRcv_lane_same]; exact hput), State.setRcv_lane_same, State.setRcv_setRcv,
      State.recordMark_tail (front := front) (e := e) (by rw [State.setRcv_lane_same]; exact hrx), State.setRcv_lane_same,
      State.setRcv_setRcv]
  · rw [htakes] at ht
    refine exec_engineAbort_seen ht hpulse ?_ hv
    have hrx' : ((s.setRcv n { (s.lane n).rcv with markPulse := none }).lane n).rcv.rx = front ++ [e] := by
      rw [State.setRcv_lane_same]
      exact hrx
    rw [hu, State.engineAborts_gap (by rw [State.setRcv_lane_same]; exact hput), State.recordMark_tail hrx', hrx',
      tailMarked_append, State.setRcv_lane_same, State.setRcv_setRcv]
    cases hmark : e.mark with
    | none => rfl
    | some m =>
      simp only [Option.isSome_some, if_true, reduceCtorEq, if_false]
      rw [← hrx]
  · have hlate : ¬timerDue s.now (s.lane n).rcv.byteTimer = true := by
      rw [timerDue_early (.inr ⟨d, htimer, hearly⟩)]
      exact Bool.false_ne_true
    exact congrArg Host.Outcome.next (if_neg hlate)
  · exact exec_byteTimerExpiry_due htimer hdue (by rw [hu, State.byteTimedOut_other hput]) hv
  · refine exec_byteTimerExpiry_due htimer hdue ?_ hv
    rw [hu, State.byteTimedOut_record hput, State.recordMark_nil (by rw [State.setRcv_lane_same]; exact hrx)]
  · refine exec_byteTimerExpiry_due htimer hdue ?_ hv
    rw [hu, State.byteTimedOut_record hput, State.recordMark_tail (front := front) (e := e)
      (by rw [State.setRcv_lane_same]; exact hrx), State.setRcv_lane_same, State.setRcv_setRcv]

/-! ### Puts (R96, R97) -/

/-- A put where puts are taken, and in DUPLEX the turn's end with MARK (R96, R97, R102). -/
theorem exec_put_taken {s w : State} {n : LaneId} {b : Byte} {mark : Bool} (htakes : (s.lane n).takesPuts = true)
    (hw : (if (s.lane n).rcv.rx.length < 16 then
        (s.setLane n { s.lane n with
          turn := { (s.lane n).turn with putSeen := true }
          rcv := { (s.lane n).rcv with markPulse := if mark then some true else none } }).acceptPut n b mark
      else
        (s.setLane n { s.lane n with
          turn := { (s.lane n).turn with putSeen := true }
          rcv := { (s.lane n).rcv with markPulse := if mark then some true else none } }).overrun n mark) = w) :
    exec (.put n b mark) s =
      .next (s.noting (if mark = true ∧ (s.lane n).mode = .duplex then w.endTurn n .inbound else w)) := by
  subst hw
  refine congrArg Host.Outcome.next ((if_pos htakes).trans ?_)
  dsimp only
  simp only [Bool.and_eq_true, beq_iff_eq]

/-- The byte timer after a put (R96). -/
theorem putTimer_eq (now : Nat) (limit : BitVec 8) (fill : Nat) (after : PutState) :
    putTimer (startLaneTimer now limit) fill after = if fill < 16 ∧ after ≠ .gap then deadline now limit else none := by
  unfold putTimer
  rw [startLaneTimer_eq_deadline]
  by_cases hfill : fill < 16
  · by_cases hafter : after = .gap <;> simp [hfill, hafter]
  · simp [hfill]

/-- A put taken with ROOM, in the terms of the claims (R96). -/
theorem State.acceptPut_eq (s : State) (n : LaneId) (b : Byte) (mark : Bool) {after : PutState} {rx : List RxEntry}
    (hafter : after = if mark = true then .gap else if (s.lane n).rcv.putState = .skip then .skip else .record)
    (hrx : rx = if (s.lane n).rcv.putState = .skip then (s.lane n).rcv.rx else (s.lane n).rcv.rx ++ [⟨b, mark, none⟩]) :
    s.acceptPut n b mark = (s.setRcv n { (s.lane n).rcv with
      rx := rx
      putState := after
      byteTimer := if rx.length < 16 ∧ after ≠ .gap then deadline s.now (s.lane n).byteLimit else none }).drain n := by
  rw [← putTimer_eq]
  unfold State.acceptPut
  dsimp only
  congr 2
  cases hput : (s.lane n).rcv.putState <;> simp only [hput, reduceCtorEq, if_true, if_false] at hafter hrx ⊢ <;>
    rw [hafter, hrx] <;> cases mark <;> rfl

/-- A put that finds the buffer full (R97). -/
theorem State.overrun_eq (s : State) (n : LaneId) (mark : Bool) {after : PutState} {rx front : List RxEntry} {e : RxEntry}
    (hafter : after = if mark = true then .gap else .skip) (hfull : (s.lane n).rcv.rx = front ++ [e])
    (hrx : rx = if (s.lane n).rcv.putState = .record then front ++ [{ e with mark := some .overrun }]
      else (s.lane n).rcv.rx) :
    s.overrun n mark = s.setRcv n { (s.lane n).rcv with rx := rx, putState := after } := by
  have hput' : PutState.skip.afterPut mark = after := by rw [hafter]; rfl
  unfold State.overrun
  dsimp only
  rw [hput']
  split
  · next hput =>
    rw [if_pos hput] at hrx
    rw [State.recordMark_tail hfull, State.setRcv_lane_same, State.setRcv_setRcv, hrx]
  · next hput =>
    rw [if_neg hput] at hrx
    rw [hrx]

/-- The byte timer once an entry has left the buffer (R96). -/
theorem State.popRx_eq (s : State) (n : LaneId) (rest : List RxEntry) : s.popRx n rest = s.setRcv n { (s.lane n).rcv with
    rx := rest
    byteTimer := if (s.lane n).rcv.rx.length = 16 ∧
        ((s.lane n).mode = .receive ∨ ((s.lane n).mode = .duplex ∧ (s.lane n).turn.turn = .inn)) ∧
        ((s.lane n).rcv.putState ≠ .gap ∨ ((s.lane n).turn.turn = .inn ∧ (s.lane n).turn.putSeen = false))
      then deadline s.now (s.lane n).byteLimit else (s.lane n).rcv.byteTimer } := by
  have hcond : ((s.lane n).takesPuts &&
      ((s.lane n).rcv.putState != .gap || ((s.lane n).turn.turn == .inn && !(s.lane n).turn.putSeen))) = true ↔
      ((s.lane n).mode = .receive ∨ ((s.lane n).mode = .duplex ∧ (s.lane n).turn.turn = .inn)) ∧
        ((s.lane n).rcv.putState ≠ .gap ∨ ((s.lane n).turn.turn = .inn ∧ (s.lane n).turn.putSeen = false)) := by
    rw [Bool.and_eq_true, Lane.takesPuts_iff, Bool.or_eq_true, Bool.and_eq_true, bne_iff_ne, beq_iff_eq, Bool.not_eq_true']
  unfold State.popRx Lane.roomTimer
  dsimp only
  rw [startLaneTimer_eq_deadline]
  congr 2
  by_cases hfull : (s.lane n).rcv.rx.length = 16
  · simp only [hfull, if_true, hcond, true_and]
  · simp only [hfull, if_false, false_and]

/-- Settles O50: a put with room, a put without, and the consumption of the buffer. -/
theorem putJoinsTheBufferOrOverruns : Obligations.PutJoinsTheBufferOrOverruns := by
  intro s n b mark x l hl hx
  subst hx hl
  refine ⟨fun hno => ?_, fun htakes after u => ⟨fun hroom hafter rx hrx hu => ?_, fun hfull hafter rx front e htail hrx hu => ?_⟩,
    fun rest => State.popRx_eq s n rest, State.drain_rests, fun e rest hc hrx => State.drain_cons hc hrx⟩
  · rw [← Lane.takesPuts_iff] at hno
    exact congrArg Host.Outcome.next (if_neg hno)
  · rw [← Lane.takesPuts_iff] at htakes
    refine exec_put_taken htakes ((if_pos hroom).trans ?_)
    rw [State.acceptPut_eq (after := after) (rx := rx) _ _ _ _ (by rw [State.lane_setLane_same]; exact hafter)
      (by rw [State.lane_setLane_same]; exact hrx), hu, State.setRcv]
    simp only [State.lane_setLane_same, State.setLane_setLane, State.setLane_now]
  · rw [← Lane.takesPuts_iff] at htakes
    refine exec_put_taken htakes ((if_neg (Nat.not_lt.mpr hfull)).trans ?_)
    rw [State.overrun_eq (after := after) (rx := rx) (front := front) (e := e) _ _ _ hafter
      (by rw [State.lane_setLane_same]; exact htail) (by rw [State.lane_setLane_same]; exact hrx), hu, State.setRcv]
    simp only [State.lane_setLane_same, State.setLane_setLane]

/-! ### The notice writer's words (R167 to R169) -/

/-- Settles O57: the writer's word, and MERR. -/
theorem noticeWordCompletes : Obligations.NoticeWordCompletes := by
  intro s a x hx hport
  subst hx
  have hwritten : s.nu.writer = .word1Writing →
      exec (.noticeWordCompletion false) s = .next s.freePort.noticeWritten := by
    intro hwriter
    unfold exec execNoticeWordCompletion
    simp only [hport, hwriter]
    rfl
  have hfailed : s.nu.writer = .word0Writing ∨ s.nu.writer = .word1Writing →
      exec (.noticeWordCompletion true) s = .next s.freePort.noticeFailed := by
    intro hwriter
    unfold exec execNoticeWordCompletion
    rcases hwriter with hwriter | hwriter <;> simp only [hport, hwriter] <;> rfl
  refine ⟨fun hwriter => ?_, fun hwriter => ⟨_, hwritten hwriter, ?_, fun hne => ?_⟩, fun hwriter =>
    ⟨_, hfailed hwriter, ?_, ?_⟩⟩
  · unfold exec execNoticeWordCompletion
    simp only [hport, hwriter]
    rfl
  · rw [State.noticeWritten, State.startWriter_eq]
    simp only [State.withNu, true_and]
    rfl
  · rw [State.noticeWritten, State.startWriter_eq]
    have hocc : (s.nu.prod + 1 - s.nu.cons != 0) = true := by
      rw [bne_iff_ne]
      exact fun h => hne ((NoticeUnit.occupancy_eq_zero { s.nu with prod := s.nu.prod + 1 }).mp h)
    change (s.dev.irqEn && (s.nu.prod + 1 - s.nu.cons != 0 || s.nu.lost)) = _
    rw [hocc, Bool.true_or, Bool.and_true]
  · rw [State.noticeFailed, State.startWriter_eq]
    simp only [State.withNu, true_and]
    rfl
  · rw [State.noticeFailed, State.startWriter_eq]
    change (s.dev.irqEn && (_ || true)) = _
    rw [Bool.or_true, Bool.and_true]

end Sys2Proof.Machine
end

section
/-! SUPPORT. The grants of a lane's mode word and the watch sample (R88, R89, R155, R158, R160, R162). -/

namespace Sys2Proof.Machine

/-- Two states that differ in their lanes alone are the same when their lanes are. -/
theorem State.ext_lanes {s t u : State} (ht : t = { s with lanes := t.lanes }) (hu : u = { s with lanes := u.lanes })
    (h : ∀ n, t.lane n = u.lane n) : t = u := by
  rw [ht, hu, lanes_ext (v := t.lanes) (w := u.lanes) h]

/-- The lines of a lane depend on its turn through T_OUT alone (R86, R103). -/
theorem State.inputs_congr_out {s t : State} (h : ∀ n, (s.lane n).mode = (t.lane n).mode ∧ (s.lane n).dir = (t.lane n).dir ∧
    ((s.lane n).turn.turn = .out ↔ (t.lane n).turn.turn = .out)) (n : LaneId) : s.inputs n = t.inputs n := by
  obtain ⟨hmode, hdir, hout⟩ := h n
  unfold State.inputs State.driven State.lending
  dsimp only
  rw [hmode, hdir, (h (mate n)).1]
  simp only [hout]

theorem State.inputs_congr_lane {s t : State} {n : LaneId} (h : s.lane n = t.lane n)
    (hmate : (s.lane (mate n)).mode = (t.lane (mate n)).mode) : s.inputs n = t.inputs n := by
  unfold State.inputs State.driven State.lending
  dsimp only
  rw [h, hmate]

/-- The levels of a DUPLEX lane out of T_OUT depend on its send side alone (R86). -/
theorem State.liveLines_duplex {s t : State} {n : LaneId} (hs : (s.lane n).mode = .duplex) (ht : (t.lane n).mode = .duplex)
    (houts : (s.lane n).turn.turn ≠ .out) (houtt : (t.lane n).turn.turn ≠ .out) (hsnd : (s.lane n).snd = (t.lane n).snd)
    (pins : Pins) : s.liveLines pins n = t.liveLines pins n := by
  have hdriven : s.driven n = t.driven n := by
    unfold State.driven
    dsimp only
    rw [hs, ht]
    dsimp only
    rw [if_neg houts, if_neg houtt]
  have hlevel : s.driveLevel n = t.driveLevel n := by
    unfold State.driveLevel
    dsimp only
    rw [hs, ht, hsnd]
  unfold State.liveLines
  rw [hdriven, hlevel]

/-- Lines that stay as they are have not become anything (R160). -/
theorem noneFresh (x y z : Lines) : x ||| (y &&& ~~~y ||| z &&& ~~~z) = x := by simp

/-! ### The masks alone (R88, R158) -/

/-- The masks of a lane leave the lines of the other lanes as they are. -/
theorem State.takeMasks_fresh (s : State) (n : LaneId) (w : Word) :
    (s.setLane n ((s.lane n).takeMasks w)).noteFreshAll s = s.setLane n { (s.lane n).takeMasks w with
      mir := { (s.lane n).mir with
        fresh := (s.lane n).mir.fresh ||| (((s.setLane n ((s.lane n).takeMasks w)).inputs n &&& ~~~(s.inputs n)) |||
          (((s.lane n).takeMasks w).watch &&& ~~~((s.lane n).watch))) } } := by
  refine State.ext_lanes (s := s) (State.noteFreshAll_eq ..) rfl fun k => ?_
  rw [State.noteFreshAll_lane]
  by_cases hk : k = n
  · subst hk
    simp only [State.lane_setLane_same]
    rfl
  · have hinputs : (s.setLane n ((s.lane n).takeMasks w)).inputs k = s.inputs k := by
      refine State.inputs_congr_lane (State.lane_setLane_of_ne s hk _) ?_
      rw [State.lane_setLane]
      split
      · rename_i h
        rw [← h]
        rfl
      · rfl
    rw [hinputs, State.lane_setLane_of_ne s hk, State.lane_setLane_of_ne s hk, noneFresh]

/-- Settles O22: no mode changes, so no line of another lane does. -/
theorem masksAreTakenWithModeUnchanged : Obligations.MasksAreTakenWithModeUnchanged := by
  intro s r n hg hw hcode
  obtain ⟨g, hgeq⟩ : ∃ g : State, g = { s with arb := s.granted.arb, freeCount := s.granted.freeCount } := ⟨_, rfl⟩
  have hwritten : ∀ u : State, u.lanes = s.lanes → u.writtenMode n r.be r.data = (s.lane n).mode := by
    intro u hu
    have : u.lane n = s.lane n := by unfold State.lane; rw [hu]
    unfold State.writtenMode State.modePresented
    rw [this, ← LaneMode.ofCode_code (s.lane n).mode, hcode]
    rfl
  have htake : g.takeLaneMode .low n r.be r.data =
      (g.setLane n ((g.lane n).takeMasks (s.modeWritten n r))).noteFreshAll g := by
    unfold State.takeLaneMode
    dsimp only
    rw [if_pos (by rw [hgeq]; exact hwritten _ rfl), hgeq]
    rfl
  obtain ⟨v, hv⟩ : ∃ v : State, v = (g.setLane n ((g.lane n).takeMasks (s.modeWritten n r))).noteFreshAll g := ⟨_, rfl⟩
  have hinputs : v.inputs n = (g.setLane n ((g.lane n).takeMasks (s.modeWritten n r))).inputs n := by
    refine State.inputs_congr (fun k => ?_) n
    rw [hv, State.noteFreshAll_lane]
    exact ⟨rfl, rfl, rfl⟩
  refine ⟨v.memoryCycle r HostCycle.bare, ?_, ?_⟩
  · change Host.Outcome.next (s.grantWhen _ _) = _
    rw [grantWhen_targets hg hw (beq_iff_eq.mpr (hwritten s rfl)), hv, ← htake, hgeq]
    rfl
  · have hlines : (v.memoryCycle r HostCycle.bare).inputs n = v.inputs n :=
      State.inputs_congr (fun k => by rw [State.memoryCycle_lane]; exact ⟨rfl, rfl, rfl⟩) n
    rw [hlines, hinputs, hv, State.takeMasks_fresh, hgeq]
    rw [BitVec.or_assoc]
    rfl

/-! ### Mode changes (R88, R89) -/

/-- The check of a mode change in the manual's words (R88). -/
theorem State.modeCheck_bound {s : State} {n : LaneId} (h : LaneBound s n) (m : LaneMode) : s.modeCheck n m = some 12 := by
  obtain ⟨c, hrun, hlane⟩ := h
  exact if_pos (List.any_eq_true.mpr ⟨c, mem_allChans c, by simp [(Channel.running_iff _).mpr hrun, hlane]⟩)

theorem State.modeCheck_free {s : State} {n : LaneId} (h : ¬LaneBound s n) (m : LaneMode) :
    s.modeCheck n m =
      if m = .duplex ∧ (oddLane n = true ∨ (s.lane (mate n)).mode ≠ .mirror) then some 13
      else if oddLane n = true ∧ m ≠ .mirror ∧ (s.lane (mate n)).mode = .duplex then some 13
      else none := by
  refine if_neg fun hany => h ?_
  obtain ⟨c, _, hc⟩ := List.any_eq_true.mp hany
  rw [Bool.and_eq_true, Channel.running_iff, beq_iff_eq] at hc
  exact ⟨c, hc⟩

theorem State.modeCheck_partner {s : State} {n : LaneId} {m : LaneMode} (h : ¬LaneBound s n) (hp : PartnerRefuses s n m) :
    s.modeCheck n m = some 13 := by
  rw [State.modeCheck_free h]
  rcases hp with ⟨hm, hodd⟩ | ⟨hm, _, hmate⟩ | hlent
  · exact if_pos ⟨hm, .inl hodd⟩
  · exact if_pos ⟨hm, .inr hmate⟩
  · rw [if_pos hlent, ite_self]

theorem State.modeCheck_none {s : State} {n : LaneId} {m : LaneMode} (h : ¬LaneBound s n) (hp : ¬PartnerRefuses s n m) :
    s.modeCheck n m = none := by
  rw [State.modeCheck_free h, if_neg, if_neg]
  · exact fun hlent => hp (.inr (.inr hlent))
  · rintro ⟨hm, hodd | hmate⟩
    · exact hp (.inl ⟨hm, hodd⟩)
    · cases hodd : oddLane n with
      | true => exact hp (.inl ⟨hm, hodd⟩)
      | false => exact hp (.inr (.inl ⟨hm, hodd, hmate⟩))

/-- The lines that a switch released are not left out of the next sample (R162). -/
theorem releasedFresh (f r x : Lines) : (f ||| (r ||| x)) &&& ~~~r = (f ||| x) &&& ~~~r := by
  apply BitVec.eq_of_getLsbD_eq
  intro i hi
  simp only [BitVec.getLsbD_and, BitVec.getLsbD_or, BitVec.getLsbD_not, hi, decide_true, Bool.true_and]
  cases r.getLsbD i with
  | true => rw [Bool.not_true, Bool.and_false, Bool.and_false]
  | false => rw [Bool.false_or]

/-- Lane n after an accepted mode change, with WANT's level, the levels of its lines and the lines that it released (R89, R155,
R160, R162). -/
def Lane.switched (l : Lane) (m : LaneMode) (w : Word) (want : Bool) (timer : Option Nat) (live released : Lines) : Lane :=
  { l.takeMasks w with
    mode := m
    snd := .reset
    rcv := { RecvSide.reset with byteTimer := if want then timer else none }
    turn := { TurnState.reset with turn := if want then Turn.inn else Turn.idle, want := want }
    mir :=
      { latch := 0
        changeHeld := false
        sampled := live
        prevInput := l.mir.prevInput ||| released
        fresh := (l.mir.fresh ||| (field w 19 11 &&& ~~~l.watch)) &&& ~~~released } }

/-- The lanes at an accepted mode change before the turn arbiter decides (R89, R155, R160, R162). -/
theorem State.switched_lane (s : State) (pins : Pins) (n : LaneId) (m : LaneMode) (w : Word) {t : State}
    (ht : t = s.setLane n ((s.lane n).changeMode m w)) (k : LaneId) :
    (((t.sampleLane pins n).noteFreshAll s).compareReleased s n).lane k =
      if n = k then (s.lane n).switched m w false none (t.liveLines pins n) (t.inputs n &&& ~~~(s.inputs n))
      else { s.lane k with mir := { (s.lane k).mir with
        fresh := (s.lane k).mir.fresh ||| (t.inputs k &&& ~~~(s.inputs k)) } } := by
  have hsampled : ∀ j, (t.sampleLane pins n).lane j = if n = j then { t.lane n with mir := { (t.lane n).mir with
      sampled := t.liveLines pins n } } else t.lane j := fun j => State.lane_setLane ..
  have hinputs : ∀ j, (t.sampleLane pins n).inputs j = t.inputs j := by
    refine State.inputs_congr fun j => ?_
    rw [hsampled]
    split
    · rename_i h
      rw [h]
      exact ⟨rfl, rfl, rfl⟩
    · exact ⟨rfl, rfl, rfl⟩
  have hnoted : ∀ j, ((t.sampleLane pins n).noteFreshAll s).inputs j = t.inputs j := by
    intro j
    rw [← hinputs]
    refine State.inputs_congr (fun i => ?_) j
    rw [State.noteFreshAll_lane]
    exact ⟨rfl, rfl, rfl⟩
  rw [State.compareReleased_lane, hnoted, State.noteFreshAll_lane, State.noteFreshAll_lane, hinputs, hinputs, hsampled,
    hsampled, if_pos rfl]
  split
  · rename_i h
    have hlane : t.lane n = (s.lane n).changeMode m w := by rw [ht, State.lane_setLane_same]
    rw [releasedFresh, hlane]
    rfl
  · rename_i h
    rw [ht, State.lane_setLane_of_ne s (Ne.symm h)]
    have hwatch : (s.lane k).watch &&& ~~~(s.lane k).watch = 0#11 := by simp
    rw [hwatch, BitVec.or_zero]

theorem State.noteFreshAll_now (s before : State) : (s.noteFreshAll before).now = s.now := by rw [State.noteFreshAll_eq]

theorem State.compareReleased_now (s before : State) (n : LaneId) : (s.compareReleased before n).now = s.now := by
  rw [State.compareReleased_eq]

/-- The grant of T_IN touches no other lane (R102). -/
theorem State.takesIn_lane (s : State) (n k : LaneId) : (s.takesIn n).lane k = if n = k then { s.lane n with
    turn := { (s.lane n).turn with turn := .inn, putSeen := false }
    rcv := { (s.lane n).rcv with
      byteTimer := if (s.lane n).rcv.rx.length < 16 then deadline s.now (s.lane n).byteLimit
        else (s.lane n).rcv.byteTimer } } else s.lane k := State.lane_setLane ..

/-- A DUPLEX lane whose WANT is asserted is granted T_IN at once, and else rests (R100, R102). -/
theorem State.acceptMode_eq (s : State) (pins : Pins) (n : LaneId) (m : LaneMode) (w : Word) {t u : State}
    (ht : t = s.setLane n ((s.lane n).changeMode m w))
    (hu : u = ((t.sampleLane pins n).noteFreshAll s).compareReleased s n) :
    s.acceptMode pins n m w =
      if m = .duplex then
        if wantLevel pins n = true then (u.setTurn n { (u.lane n).turn with want := true }).takesIn n
        else u.setTurn n { (u.lane n).turn with want := false }
      else u := by
  have hn := s.switched_lane pins n m w ht n
  rw [← hu, if_pos rfl] at hn
  unfold State.acceptMode
  dsimp only
  rw [← ht, ← hu]
  split
  · rename_i hm
    have hv : ∀ b, (u.setTurn n { (u.lane n).turn with want := b }).lane n =
        { u.lane n with turn := { (u.lane n).turn with want := b } } := fun _ => State.setTurn_lane_same ..
    cases wantLevel pins n with
    | false => exact State.decideTurn_rest (by rw [hv]) (by rw [hv, hn]; rfl)
    | true =>
      exact State.decideTurn_in (by rw [hv, hn]; exact hm) (by rw [hv, hn]; rfl) (by rw [hv]) (.inl (by rw [hv, hn]; rfl))
  · rfl

/-- An accepted mode change touches the lanes alone. -/
theorem State.acceptMode_lanes (s : State) (pins : Pins) (n : LaneId) (m : LaneMode) (w : Word) :
    s.acceptMode pins n m w = { s with lanes := (s.acceptMode pins n m w).lanes } := by
  obtain ⟨t, ht⟩ : ∃ t : State, t = s.setLane n ((s.lane n).changeMode m w) := ⟨_, rfl⟩
  obtain ⟨u, hu⟩ : ∃ u : State, u = ((t.sampleLane pins n).noteFreshAll s).compareReleased s n := ⟨_, rfl⟩
  have hlanes : u = { s with lanes := u.lanes } := by
    rw [hu, State.compareReleased_eq, State.noteFreshAll_eq, ht]
    rfl
  rw [s.acceptMode_eq pins n m w ht hu]
  split
  · split
    · rw [hlanes]
      rfl
    · rw [hlanes]
      rfl
  · exact hlanes

/-- The lanes after an accepted mode change (R89, R102, R155, R160, R162). -/
theorem State.acceptMode_lane (s : State) (pins : Pins) (n : LaneId) (m : LaneMode) (w : Word) {t : State} {want : Bool}
    (ht : t = s.setLane n ((s.lane n).changeMode m w)) (hwant : want = (m == .duplex && wantLevel pins n)) (k : LaneId) :
    (s.acceptMode pins n m w).lane k =
      if n = k then (s.lane n).switched m w want (deadline s.now (s.lane n).byteLimit) (t.liveLines pins n)
        (t.inputs n &&& ~~~(s.inputs n))
      else { s.lane k with mir := { (s.lane k).mir with
        fresh := (s.lane k).mir.fresh ||| (t.inputs k &&& ~~~(s.inputs k)) } } := by
  have hlane := s.switched_lane pins n m w ht
  obtain ⟨u, hu⟩ : ∃ u : State, u = ((t.sampleLane pins n).noteFreshAll s).compareReleased s n := ⟨_, rfl⟩
  have hnow : u.now = s.now := by
    rw [hu, State.compareReleased_now, State.noteFreshAll_now, ht]
    rfl
  have hn := hlane n
  rw [if_pos rfl, ← hu] at hn
  rw [← hu] at hlane
  rw [s.acceptMode_eq pins n m w ht hu]
  split
  · rename_i hm
    subst hm
    rw [beq_self_eq_true, Bool.true_and] at hwant
    split
    · rename_i hlevel
      rw [State.takesIn_lane, State.setTurn_lane_same, State.setTurn_lane, hlane k, hn, hwant, hlevel, ← hnow]
      split
      · rfl
      · rfl
    · rename_i hlevel
      rw [State.setTurn_lane, hlane k, hn, hwant, Bool.eq_false_iff.mpr hlevel]
      split
      · rfl
      · rfl
  · rename_i hm
    rw [beq_eq_false_iff_ne.mpr hm, Bool.false_and] at hwant
    rw [hwant]
    exact hlane k

/-- Settles O21: refused by the first reason that applies, else the lane is switched and the others note their lines. -/
theorem modeChangeIsCheckedAndResetsTheLane : Obligations.ModeChangeIsCheckedAndResetsTheLane := by
  intro s r pins n m hg hw hcode hne
  obtain ⟨g, hgeq⟩ : ∃ g : State, g = { s with arb := s.granted.arb, freeCount := s.granted.freeCount } := ⟨_, rfl⟩
  have hglane : ∀ k, g.lane k = s.lane k := fun k => by rw [hgeq]; rfl
  have hgchan : ∀ c, g.chan c = s.chan c := fun c => by rw [hgeq]; rfl
  have hwritten : ∀ u : State, u.lane n = s.lane n → u.writtenMode n r.be r.data = m := by
    intro u hu
    unfold State.writtenMode State.modePresented
    rw [hu, ← LaneMode.ofCode_code m, hcode]
    rfl
  have hexec : exec (.laneModeChange pins) s =
      .next ((g.takeLaneMode pins n r.be r.data).memoryCycle r HostCycle.bare) := by
    change Host.Outcome.next (s.grantWhen _ _) = _
    rw [grantWhen_targets hg hw (by rw [bne_iff_ne]; exact (hwritten s rfl) ▸ hne), hgeq]
    rfl
  have htake : g.takeLaneMode pins n r.be r.data = match g.modeCheck n m with
      | some reason => g.setupRejected (laneSource n) reason
      | none => g.acceptMode pins n m (s.modeWritten n r) := by
    unfold State.takeLaneMode State.modePresented
    dsimp only
    rw [hwritten g (hglane n), if_neg (by rwa [hglane]), hglane]
    rfl
  have hbound : LaneBound g n ↔ LaneBound s n := by simp only [LaneBound, hgchan]
  have hpartner : PartnerRefuses g n m ↔ PartnerRefuses s n m := by simp only [PartnerRefuses, hglane]
  rw [hexec, htake]
  refine ⟨fun reason hreason => ?_, fun hfree hallowed => ?_⟩
  · have hcheck : g.modeCheck n m = some reason := by
      rcases hreason with ⟨rfl, hb⟩ | ⟨rfl, hfree, hp⟩
      · exact State.modeCheck_bound (hbound.mpr hb) m
      · exact State.modeCheck_partner (mt hbound.mp hfree) (hpartner.mpr hp)
    rw [hcheck]
    dsimp only
    rw [State.setupRejected_eq, hgeq]
    rfl
  · rw [State.modeCheck_none (mt hbound.mp hfree) (mt hpartner.mp hallowed)]
    dsimp only
    obtain ⟨want, hwant⟩ : ∃ want : Bool, want = (m == .duplex && wantLevel pins n) := ⟨_, rfl⟩
    obtain ⟨t0, ht0⟩ : ∃ t : State, t = g.setLane n ((g.lane n).changeMode m (s.modeWritten n r)) := ⟨_, rfl⟩
    obtain ⟨v, hv⟩ : ∃ v : State, v = g.acceptMode pins n m (s.modeWritten n r) := ⟨_, rfl⟩
    have hlane := g.acceptMode_lane pins n m (s.modeWritten n r) ht0 hwant
    have hlanes := g.acceptMode_lanes pins n m (s.modeWritten n r)
    rw [← hv] at hlane hlanes ⊢
    have hn := hlane n
    rw [if_pos rfl, hglane] at hn
    have ht0lane : ∀ k, t0.lane k = if n = k then (s.lane n).changeMode m (s.modeWritten n r) else s.lane k := by
      intro k
      rw [ht0, State.lane_setLane, hglane, hglane]
    have hvinputs : ∀ k, (v.memoryCycle r HostCycle.bare).inputs k = t0.inputs k := by
      refine State.inputs_congr_out fun k => ?_
      rw [State.memoryCycle_lane, hlane k, ht0lane, hglane, hglane]
      split
      · refine ⟨rfl, rfl, iff_of_false (fun h => ?_) (by intro h; cases h)⟩
        cases want with
        | false => cases h
        | true => cases h
      · exact ⟨rfl, rfl, Iff.rfl⟩
    have hginputs : ∀ k, g.inputs k = s.inputs k := fun k => by rw [hgeq]; rfl
    have hlive : t0.liveLines pins n = (v.memoryCycle r HostCycle.bare).liveLines pins n := by
      have hvn : (v.memoryCycle r HostCycle.bare).lane n = (s.lane n).switched m (s.modeWritten n r) want
          (deadline g.now (s.lane n).byteLimit) (t0.liveLines pins n) (t0.inputs n &&& ~~~(g.inputs n)) := by
        rw [State.memoryCycle_lane, hn]
      have ht0n : t0.lane n = (s.lane n).changeMode m (s.modeWritten n r) := by rw [ht0lane, if_pos rfl]
      cases want with
      | true =>
        have hm : m = .duplex := by
          rw [eq_comm, Bool.and_eq_true, beq_iff_eq] at hwant
          exact hwant.1
        refine State.liveLines_duplex (by rw [ht0n]; exact hm) (by rw [hvn]; exact hm) ?_ ?_ (by rw [ht0n, hvn]; rfl) pins
        · rw [ht0n]
          intro h
          cases h
        · rw [hvn]
          intro h
          cases h
      | false =>
        refine State.liveLines_congr (fun k => ⟨(t0.lane k).mir, ?_, ?_⟩) pins n
        · rw [State.memoryCycle_lane, hlane k, ht0lane, hglane, hglane]
          split
          · rfl
          · rfl
        · rw [State.memoryCycle_lane, hlane k, ht0lane, hglane, hglane]
          split
          · rfl
          · rfl
    refine ⟨v.memoryCycle r HostCycle.bare, rfl, ?_, fun k hk => ?_, fun want' released hwant' hreleased => ?_⟩
    · rw [hlanes, hgeq]
      rfl
    · rw [hvinputs, State.memoryCycle_lane, hlane k, if_neg (Ne.symm hk), hglane, hginputs]
    · have hsame : want' = want := hwant'.trans hwant.symm
      rw [State.memoryCycle_lane, hn, hlive, hsame, hreleased, hvinputs, hginputs, hgeq]
      rfl

/-! ### The watch sample (R160) -/

/-- Lane n as a watch sample of the lane `l` leaves it (R160). -/
def State.watched (s : State) (pins : Pins) (n : LaneId) : Lane :=
  { s.lane n with mir :=
    { latch := (s.lane n).mir.latch
      changeHeld := (s.lane n).mir.changeHeld || s.changed pins n != 0
      sampled := s.liveLines pins n
      prevInput := ~~~(s.driven n)
      fresh := 0 } }

/-- The notice unit x once lane n has reported its changed lines (R160). -/
def State.watchReport (s : State) (pins : Pins) (x : NoticeUnit) (n : LaneId) : NoticeUnit :=
  ({ s with nu := x }).reported (s.changed pins n != 0 && !(s.lane n).mir.changeHeld) .mirrorChange
    (BitVec.ofNat 8 (0x10 + n.val)) 0xFF 0 ((s.changed pins n).setWidth 16)

theorem State.watchLane_eq (s : State) (pins : Pins) (n : LaneId) :
    State.watchLane pins s n = { s.setLane n (s.watched pins n) with nu := s.watchReport pins s.nu n } := by
  unfold State.watchLane State.watchReport
  dsimp only
  split
  · rename_i h
    have hcond : (s.changed pins n != 0 && !(s.lane n).mir.changeHeld) = true := h
    rw [State.generate_eq, hcond]
    rfl
  · rename_i h
    have hcond : (s.changed pins n != 0 && !(s.lane n).mir.changeHeld) = false := Bool.eq_false_iff.mpr h
    rw [hcond, State.reported_false]
    rfl

/-- u carries the levels that s does: its lanes differ in what watch samples compare alone. -/
def SameLevels (s u : State) : Prop :=
  u.dev = s.dev ∧ ∀ k, ∃ m : MirrorState, m.latch = (s.lane k).mir.latch ∧ u.lane k = { s.lane k with mir := m }

theorem SameLevels.driven {s u : State} (h : SameLevels s u) (n : LaneId) : u.driven n = s.driven n := by
  refine State.driven_congr (fun k => ?_) n
  obtain ⟨m, _, hk⟩ := h.2 k
  rw [hk]
  exact ⟨rfl, rfl, rfl⟩

theorem SameLevels.changed {s u : State} (h : SameLevels s u) {n : LaneId} (hn : u.lane n = s.lane n) (pins : Pins) :
    u.changed pins n = s.changed pins n := by
  unfold State.changed
  rw [h.driven, hn, State.liveLines_congr h.2]

theorem SameLevels.watched {s u : State} (h : SameLevels s u) {n : LaneId} (hn : u.lane n = s.lane n) (pins : Pins) :
    u.watched pins n = s.watched pins n := by
  unfold State.watched
  rw [h.changed hn, h.driven, hn, State.liveLines_congr h.2]

theorem SameLevels.watchReport {s u : State} (h : SameLevels s u) {n : LaneId} (hn : u.lane n = s.lane n) (pins : Pins)
    (x : NoticeUnit) : u.watchReport pins x n = s.watchReport pins x n := by
  unfold State.watchReport
  rw [h.changed hn, hn]
  exact State.reported_congr (s := { u with nu := x }) (t := { s with nu := x }) rfl
    (congrArg DeviceShadow.ringSize h.1) ..

/-- A watch sample compares levels and changes none. -/
theorem SameLevels.watchLane {s u : State} (h : SameLevels s u) (pins : Pins) (n : LaneId) :
    SameLevels s (State.watchLane pins u n) := by
  rw [State.watchLane_eq]
  refine ⟨h.1, fun k => ?_⟩
  change ∃ m : MirrorState, m.latch = _ ∧ (u.setLane n (u.watched pins n)).lane k = _
  obtain ⟨m, hm, hk⟩ := h.2 k
  rw [State.lane_setLane]
  split
  · rename_i hkn
    subst hkn
    refine ⟨(u.watched pins n).mir, ?_, ?_⟩
    · rw [← hm]
      change (u.lane n).mir.latch = _
      rw [hk]
    · change { u.lane n with mir := (u.watched pins n).mir } = _
      rw [hk]
  · exact ⟨m, hm, hk⟩

/-- The lanes of a list take their samples and report in order, each lane by its own levels (R160). -/
theorem foldl_watchLane (pins : Pins) {s : State} (l : List LaneId) (hl : l.Nodup) {u : State} (h : SameLevels s u)
    (hu : ∀ k ∈ l, u.lane k = s.lane k) :
    (∀ k, (l.foldl (State.watchLane pins) u).lane k = if k ∈ l then s.watched pins k else u.lane k) ∧
    l.foldl (State.watchLane pins) u = { u with
      lanes := (l.foldl (State.watchLane pins) u).lanes
      nu := l.foldl (s.watchReport pins) u.nu } := by
  induction l generalizing u with
  | nil => exact ⟨fun _ => rfl, rfl⟩
  | cons n l ih =>
    obtain ⟨hn, hl⟩ := List.nodup_cons.mp hl
    have hnlane := hu n List.mem_cons_self
    have hstep := State.watchLane_eq u pins n
    rw [h.watched hnlane, h.watchReport hnlane] at hstep
    have hother : ∀ k, (State.watchLane pins u n).lane k = if n = k then s.watched pins n else u.lane k := by
      intro k
      rw [hstep]
      exact State.lane_setLane ..
    obtain ⟨hlanes, hrest⟩ := ih hl (h.watchLane pins n) (fun k hk => by
      rw [hother, if_neg (fun hkn : n = k => hn (hkn ▸ hk)), hu k (List.mem_cons_of_mem n hk)])
    rw [List.foldl_cons, List.foldl_cons]
    refine ⟨fun k => ?_, ?_⟩
    · rw [hlanes k, hother]
      by_cases hkn : k = n
      · rw [if_neg (fun hk => hn (hkn ▸ hk)), if_pos hkn.symm, if_pos (List.mem_cons.mpr (.inl hkn)), hkn]
      · rw [if_neg (Ne.symm hkn)]
        simp only [List.mem_cons, hkn, false_or]
    · rw [hrest, hstep]
      rfl

/-- Settles O56: the four lanes in order. -/
theorem watchSampleReportsChangedLines : Obligations.WatchSampleReportsChangedLines := by
  intro s pins
  refine ⟨fun hreset hbypass => ?_, fun h => ?_⟩
  · obtain ⟨hlanes, hrest⟩ := foldl_watchLane pins (s := s) (u := { s with now := s.now + 1 }) allLanes (by decide)
      ⟨rfl, fun k => ⟨(s.lane k).mir, rfl, rfl⟩⟩ (fun _ _ => rfl)
    refine ⟨_, congrArg Host.Outcome.next (if_pos (by rw [hreset, hbypass]; rfl)), fun n => ?_, hrest⟩
    rw [hlanes n, if_pos (mem_allLanes n)]
    rfl
  · refine congrArg Host.Outcome.next (if_neg ?_)
    rcases h with h | h
    · rw [h, Bool.false_and]
      exact Bool.false_ne_true
    · rw [h, Bool.not_true, Bool.and_false]
      exact Bool.false_ne_true

end Sys2Proof.Machine
end

section
/-! SUPPORT. The fields of the setup words that a setup read gives (R22, R23, R30, R59, R104, 11.2 to 11.4). -/

namespace Sys2Proof.Machine

/-! ### Joined words -/

/-- A placed field has no bit of a mask that is 0 over the field. -/
theorem place_masked {n : Nat} (lo : Nat) (x : BitVec n) (m : Word) (h : field m lo n = 0) : place lo x &&& m = 0 := by
  apply BitVec.eq_of_getLsbD_eq
  intro i hi
  rw [BitVec.getLsbD_and, place_bit, BitVec.ofNat_eq_ofNat, BitVec.getLsbD_zero]
  by_cases hlo : lo ≤ i
  · by_cases hn : i - lo < n
    · have hm : m.getLsbD i = false := by
        have hbit := congrArg (fun v : BitVec n => v.getLsbD (i - lo)) h
        rwa [field_bit, decide_eq_true hn, Bool.true_and, Nat.add_sub_of_le hlo, BitVec.ofNat_eq_ofNat,
          BitVec.getLsbD_zero] at hbit
      rw [hm, Bool.and_false]
    · rw [BitVec.getLsbD_of_ge x _ (Nat.le_of_not_lt hn), Bool.and_false, Bool.false_and]
  · rw [decide_eq_false hlo, Bool.and_false, Bool.false_and, Bool.false_and]

theorem placeBit_masked (lo : Nat) (b : Bool) (m : Word) (h : field m lo 1 = 0) : placeBit lo b &&& m = 0 :=
  place_masked lo _ m h

theorem or_masked {v w m : Word} (hv : v &&& m = 0) (hw : w &&& m = 0) : (v ||| w) &&& m = 0 := by
  rw [BitVec.and_comm, BitVec.and_or_distrib_left, BitVec.and_comm m v, BitVec.and_comm m w, hv, hw, BitVec.or_self]

theorem placeBit_bit_same (lo : Nat) (b : Bool) (h : lo < 32) : (placeBit lo b).getLsbD lo = b := by
  rw [placeBit_bit, decide_eq_true h, decide_eq_true rfl, Bool.true_and, Bool.true_and]

theorem placeBit_bit_apart (lo : Nat) (b : Bool) (i : Nat) (h : i ≠ lo) : (placeBit lo b).getLsbD i = false := by
  rw [placeBit_bit, decide_eq_false h, Bool.and_false, Bool.false_and]

theorem place_bit_apart {n : Nat} (lo : Nat) (x : BitVec n) (i : Nat) (h : i < lo ∨ lo + n ≤ i) :
    (place lo x).getLsbD i = false := by
  rw [place_bit]
  rcases h with h | h
  · rw [decide_eq_false (Nat.not_le.mpr h), Bool.and_false, Bool.false_and]
  · rw [BitVec.getLsbD_of_ge x _ (by omega), Bool.and_false]

/-! ### The shadow's words (R23) -/

theorem DeviceShadow.control_unused (d : DeviceShadow) : d.control &&& 0xFFF0F8FC = 0 :=
  or_masked (or_masked (or_masked (placeBit_masked _ _ _ (by decide)) (placeBit_masked _ _ _ (by decide)))
    (place_masked _ _ _ (by decide))) (place_masked _ _ _ (by decide))

/-- The fields of a lane's mode word (11.3). -/
theorem Lane.modeWord_fields (l : Lane) :
    field l.modeWord 0 2 = l.mode.code ∧ l.modeWord.getLsbD 2 = l.missNote ∧ field l.modeWord 8 11 = l.dir ∧
      field l.modeWord 19 11 = l.watch := by
  unfold Lane.modeWord
  simp (disch := omega) only [field_or, field_place, field_place_apart, field_placeBit_apart, BitVec.getLsbD_or,
    placeBit_bit_same, place_bit_apart, BitVec.ofNat_eq_ofNat, BitVec.or_zero, BitVec.zero_or, Bool.or_false, Bool.false_or,
    and_self]

theorem Lane.modeWord_unused (l : Lane) : l.modeWord &&& 0xC00000F8 = 0 :=
  or_masked (or_masked (or_masked (place_masked _ _ _ (by decide)) (placeBit_masked _ _ _ (by decide)))
    (place_masked _ _ _ (by decide))) (place_masked _ _ _ (by decide))

theorem Lane.timerWord_unused (l : Lane) : field l.timerWord 24 8 = 0 := by
  unfold Lane.timerWord
  simp (disch := omega) only [field_or, field_place_apart, BitVec.ofNat_eq_ofNat, BitVec.or_zero]

/-- The flags of a channel's control word (11.4). -/
theorem Channel.control_flags (ch : Channel) :
    ch.control.getLsbD 0 = ch.state.run ∧ ch.control.getLsbD 1 = (ch.dir.code).getLsbD 0 := by
  unfold Channel.control
  simp (disch := omega) only [BitVec.getLsbD_or, place_bit_apart, placeBit_bit_same, placeBit_bit_apart, Bool.or_false,
    Bool.false_or, true_and]
  rw [place_bit]
  rfl

theorem Channel.control_unused (ch : Channel) : ch.control &&& 0xFFFCF0CC = 0 :=
  or_masked (or_masked (or_masked (or_masked (placeBit_masked _ _ _ (by decide)) (place_masked _ _ _ (by decide)))
    (place_masked _ _ _ (by decide))) (place_masked _ _ _ (by decide))) (place_masked _ _ _ (by decide))

theorem Channel.geometry_unused (ch : Channel) : ch.geometry &&& 0xFFFF80F0 = 0 :=
  or_masked (place_masked _ _ _ (by decide)) (place_masked _ _ _ (by decide))

/-! ### The live words (R30, R59, R104) -/

/-- The fields of a lane's status word (R104). -/
theorem Lane.statusWord_fields (l : Lane) :
    field l.statusWord 0 2 = l.snd.stateCode ∧ field l.statusWord 4 3 = l.rcv.state.code ∧
      field l.statusWord 8 2 = l.turn.turn.code ∧ l.statusWord.getLsbD 12 = l.mir.changeHeld ∧
      field l.statusWord 16 5 = BitVec.ofNat 5 l.snd.queue.length ∧
      field l.statusWord 24 5 = BitVec.ofNat 5 l.rcv.rx.length := by
  unfold Lane.statusWord
  simp (disch := omega) only [field_or, field_place, field_place_apart, field_placeBit_apart, BitVec.getLsbD_or,
    placeBit_bit_same, place_bit_apart, BitVec.ofNat_eq_ofNat, BitVec.or_zero, BitVec.zero_or, Bool.or_false, Bool.false_or,
    and_self]

theorem Lane.statusWord_unused (l : Lane) : l.statusWord &&& 0xE0E0EC8C = 0 :=
  or_masked (or_masked (or_masked (or_masked (or_masked (place_masked _ _ _ (by decide)) (place_masked _ _ _ (by decide)))
    (place_masked _ _ _ (by decide))) (placeBit_masked _ _ _ (by decide))) (place_masked _ _ _ (by decide)))
    (place_masked _ _ _ (by decide))

/-- The fields of the device status word (R30). -/
theorem State.deviceStatusWord_fields (s : State) :
    s.deviceStatusWord.getLsbD 0 = s.dev.active ∧ s.deviceStatusWord.getLsbD 1 = s.nu.lost ∧
      s.deviceStatusWord.getLsbD 2 = s.irq ∧ field s.deviceStatusWord 8 4 = BitVec.ofNat 4 s.nu.list.length ∧
      field s.deviceStatusWord 16 9 = s.nu.occupancy.setWidth 9 := by
  unfold State.deviceStatusWord
  simp (disch := omega) only [field_or, field_place, field_place_apart, field_placeBit_apart, BitVec.getLsbD_or,
    placeBit_bit_same, placeBit_bit_apart, place_bit_apart, BitVec.ofNat_eq_ofNat, BitVec.or_zero, BitVec.zero_or,
    Bool.or_false, Bool.false_or, and_self]

theorem State.deviceStatusWord_unused (s : State) : s.deviceStatusWord &&& 0xFE00F0F8 = 0 :=
  or_masked (or_masked (or_masked (or_masked (placeBit_masked _ _ _ (by decide)) (placeBit_masked _ _ _ (by decide)))
    (placeBit_masked _ _ _ (by decide))) (place_masked _ _ _ (by decide))) (place_masked _ _ _ (by decide))

/-- The fields of a channel's status word (R59). -/
theorem Channel.statusWord_fields (ch : Channel) :
    field ch.statusWord 0 2 = ch.state.code ∧ field ch.statusWord 4 4 = ch.state.reason ∧
      field ch.statusWord 8 8 = ch.seqCtr ∧ field ch.statusWord 16 7 = BitVec.ofNat 7 ch.owned := by
  unfold Channel.statusWord
  simp (disch := omega) only [field_or, field_place, field_place_apart, BitVec.ofNat_eq_ofNat, BitVec.or_zero, BitVec.zero_or, and_self]

theorem Channel.statusWord_unused (ch : Channel) : ch.statusWord &&& 0xFF80000C = 0 :=
  or_masked (or_masked (or_masked (place_masked _ _ _ (by decide)) (place_masked _ _ _ (by decide)))
    (place_masked _ _ _ (by decide))) (place_masked _ _ _ (by decide))

theorem Channel.owned_eq (ch : Channel) : ch.owned = (ch.slots.filter fun x =>
    x.state = .committed ∨ x.state = .sending ∨ x.state = .filling).length := by
  unfold Channel.owned
  congr 2
  funext x
  cases x.state <;> rfl

theorem Channel.owned_le (ch : Channel) : ch.owned ≤ ch.slots.length := List.length_filter_le ..

/-- The fields of a channel's counts word (R59). -/
theorem Channel.countsWord_fields (ch : Channel) :
    field ch.countsWord 0 16 = ch.done ∧ field ch.countsWord 16 16 = ch.faults := by
  unfold Channel.countsWord
  simp (disch := omega) only [field_or, field_place, field_place_apart, BitVec.ofNat_eq_ofNat, BitVec.or_zero, BitVec.zero_or, and_self]

/-- IRQ is asserted exactly on its condition (R173). -/
theorem State.irq_iff (s : State) :
    s.irq = true ↔ s.dev.irqEn = true ∧ (s.nu.prod ≠ s.nu.cons ∨ s.nu.lost = true) := by
  unfold State.irq NoticeUnit.occupancy
  rw [Bool.and_eq_true, Bool.or_eq_true, bne_iff_ne, ne_eq, sub_eq_zero]

/-- Settles O9, word by word. -/
theorem statusWordsHoldTheLiveFields : Obligations.StatusWordsHoldTheLiveFields := by
  intro s pins n c
  refine ⟨?_, ?_, ?_, ?_, ?_, ?_, ?_, ?_, ?_, ?_, ?_, ?_, ?_, ?_, ?_, rfl, s.irq_iff⟩
  case refine_1 =>
    rintro w rfl
    exact ⟨s.dev.control_active, s.dev.control_irqEn, s.dev.control_ringSize, s.dev.control_patience, s.dev.control_unused⟩
  case refine_2 =>
    rintro w rfl
    exact ⟨field_place _ _ _ (by omega), field_place_apart _ _ _ _ (by omega)⟩
  case refine_3 =>
    rintro w rfl
    exact ⟨field_place _ _ _ (by omega), field_place_apart _ _ _ _ (by omega)⟩
  case refine_4 =>
    rintro w rfl
    exact ⟨field_place _ _ _ (by omega), field_place_apart _ _ _ _ (by omega)⟩
  case refine_5 =>
    rintro w rfl hlist hocc
    obtain ⟨hactive, hlost, hirq, hpending, hoccupancy⟩ := s.deviceStatusWord_fields
    refine ⟨hactive, hlost, hirq, ?_, ?_, s.deviceStatusWord_unused⟩
    · change (field s.deviceStatusWord 8 4).toNat = _
      rw [hpending, BitVec.toNat_ofNat, Nat.mod_eq_of_lt (by omega)]
    · change (field s.deviceStatusWord 16 9).toNat = _
      rw [hoccupancy, BitVec.toNat_setWidth]
      exact Nat.mod_eq_of_lt (Nat.lt_of_le_of_lt hocc (by omega))
  case refine_6 =>
    rintro w rfl
    obtain ⟨hmode, hmiss, hdir, hwatch⟩ := (s.lane n).modeWord_fields
    refine ⟨?_, hmiss, hdir, hwatch, (s.lane n).modeWord_unused⟩
    change field (s.lane n).modeWord 0 2 = _
    rw [hmode]
    cases (s.lane n).mode <;> rfl
  case refine_7 =>
    rintro w rfl
    exact ⟨(s.lane n).timerWord_byteLimit, (s.lane n).timerWord_takeLimit, (s.lane n).timerWord_slotWait,
      (s.lane n).timerWord_unused⟩
  case refine_8 =>
    rintro w rfl hqueue hrx
    obtain ⟨hsend, hrecv, hturn, hheld, hqueued, hbuffered⟩ := (s.lane n).statusWord_fields
    refine ⟨?_, ?_, ?_, hheld, ?_, ?_, (s.lane n).statusWord_unused⟩
    · change field (s.lane n).statusWord 0 2 = _
      rw [hsend]
      unfold SendSide.stateCode
      cases (s.lane n).snd.cur <;> rfl
    · change field (s.lane n).statusWord 4 3 = _
      rw [hrecv]
      cases (s.lane n).rcv.state <;> rfl
    · change field (s.lane n).statusWord 8 2 = _
      rw [hturn]
      cases (s.lane n).turn.turn <;> rfl
    · change (field (s.lane n).statusWord 16 5).toNat = _
      rw [hqueued, BitVec.toNat_ofNat, Nat.mod_eq_of_lt (by omega)]
    · change (field (s.lane n).statusWord 24 5).toNat = _
      rw [hbuffered, BitVec.toNat_ofNat, Nat.mod_eq_of_lt (by omega)]
  case refine_9 =>
    rintro w rfl
    obtain ⟨hrun, hdir⟩ := (s.chan c).control_flags
    refine ⟨?_, ?_, ?_, (s.chan c).control_route, (s.chan c).control_guard, (s.chan c).control_unused⟩
    · change (s.chan c).control.getLsbD 0 = _
      rw [hrun]
      cases (s.chan c).state <;> rfl
    · change (s.chan c).control.getLsbD 1 = _
      rw [hdir]
      cases (s.chan c).dir <;> rfl
    · change (field (s.chan c).control 4 2).toNat = _
      rw [Channel.control_lane]
      rfl
  case refine_10 =>
    rintro w rfl
    exact ⟨field_place _ _ _ (by omega), field_place_apart _ _ _ _ (by omega)⟩
  case refine_11 =>
    rintro w rfl
    exact ⟨(s.chan c).geometry_sizeCode, (s.chan c).geometry_count, (s.chan c).geometry_unused⟩
  case refine_12 =>
    rintro w rfl
    exact ⟨field_place _ _ _ (by omega), field_place_apart _ _ _ _ (by omega)⟩
  case refine_13 =>
    rintro w rfl
    obtain ⟨hstate, hreason, hseq, howned⟩ := (s.chan c).statusWord_fields
    refine ⟨?_, fun p hp hrejected => ?_, fun hstate => ?_, hseq, fun hslots => ?_, (s.chan c).statusWord_unused⟩
    · change field (s.chan c).statusWord 0 2 = _
      rw [hstate]
      cases (s.chan c).state <;> rfl
    · change field (s.chan c).statusWord 4 4 = _
      rw [hreason, hrejected]
      fin_cases hp <;> rfl
    · change field (s.chan c).statusWord 4 4 = _
      rw [hreason]
      rcases hstate with h | h
      · rw [h]
        rfl
      · rw [h]
        rfl
    · change (field (s.chan c).statusWord 16 7).toNat = _
      have hle := (s.chan c).owned_le
      rw [howned, BitVec.toNat_ofNat, Nat.mod_eq_of_lt (by omega), Channel.owned_eq]
  case refine_14 => exact (s.chan c).countsWord_fields.1
  case refine_15 => exact (s.chan c).countsWord_fields.2

end Sys2Proof.Machine
end

section
/-! SUPPORT. The words that the part's own accesses name (R114, R132, R133, R135, R166, R167). -/

namespace Sys2Proof.Machine

/-! ### Addresses of slots and rings -/

/-- A slot that is not FREE is one of its channel's (R56). -/
theorem State.slot_lt_count {s : State} (h : TrackerLaw s) {c : ChanId} (hrun : (s.chan c).state = .running) {k : Nat}
    (hk : (s.slot c k).state ≠ .free) : k < (s.chan c).count.toNat := by
  obtain ⟨hlength, _, _⟩ := (h c).2 hrun
  rw [← hlength]
  by_contra hge
  refine hk ?_
  change ((s.chan c).slots.getD k SlotRec.free).state = .free
  rw [List.getD_eq_default _ _ (Nat.le_of_not_lt hge)]
  rfl

/-- Slot k's record is as R61 says. -/
theorem State.slotRecLaw {s : State} (h : TrackerLaw s) {c : ChanId} (hrun : (s.chan c).state = .running) {k : Nat}
    (hk : k < (s.chan c).count.toNat) : SlotRecLaw (s.chan c) (s.slot c k) := by
  obtain ⟨hlength, _, hrec⟩ := (h c).2 hrun
  refine hrec _ ?_
  change (s.chan c).slots.getD k SlotRec.free ∈ _
  rw [List.getD_eq_getElem _ _ (by rw [hlength]; exact hk)]
  exact List.getElem_mem _

/-- A word of a RUNNING array has the address of its slot and place (R60). -/
theorem Channel.wordAddr_toNat {ch : Channel} (hstop : ch.extent.stop ≤ 0x1000000) {k i : Nat} (hk : k < ch.count.toNat)
    (hi : 4 * i < ch.size) : (ch.wordAddr k i).toNat = ch.base.toNat + k * ch.size + 4 * i ∧
      (ch.wordAddr k i).toNat < ch.base.toNat + (k + 1) * ch.size := by
  have hle : (k + 1) * ch.size ≤ ch.count.toNat * ch.size := Nat.mul_le_mul_right _ hk
  have hsum : (k + 1) * ch.size = k * ch.size + ch.size := Nat.succ_mul ..
  change ch.base.toNat + ch.count.toNat * ch.size ≤ 0x1000000 at hstop
  have haddr : (ch.wordAddr k i).toNat = ch.base.toNat + k * ch.size + 4 * i := by
    unfold Channel.wordAddr
    rw [BitVec.toNat_ofNat, Nat.mod_eq_of_lt (by omega)]
  exact ⟨haddr, by omega⟩

/-- A record's bytes stay below its slot's end (R60). -/
theorem SlotRecLaw.payload_lt {ch : Channel} {r : SlotRec} (h : SlotRecLaw ch r) {i : Nat} (hi : i < r.len) :
    4 * (i / 4 + 1) < ch.size := by
  have hcap : r.len ≤ ch.size - 4 := h.1
  have hpos := ch.size_pos
  obtain ⟨m, hm⟩ := ch.size_dvd
  omega

/-- A length fits its field of the header (R60). -/
theorem SlotRecLaw.len_lt {ch : Channel} {r : SlotRec} (h : SlotRecLaw ch r) (hcode : ch.sizeCode.toNat ≤ 8) :
    r.len < 65536 := by
  have hcap : r.len ≤ ch.size - 4 := h.1
  have hsize : ch.size ≤ 16 * 2 ^ 8 := Nat.mul_le_mul_left _ (Nat.pow_le_pow_right (by omega) hcode)
  omega

/-- The enables of the first n bytes of a word (R114). -/
theorem lowEnables_bit {n i : Nat} (hn : n ≤ 4) (hi : i < 4) : (lowEnables n).getLsbD i = decide (i < n) := by
  have h : ∀ n ∈ List.range 5, ∀ i ∈ List.range 4, (lowEnables n).getLsbD i = decide (i < n) := by decide
  exact h n (List.mem_range.mpr (by omega)) i (List.mem_range.mpr hi)

/-- The bytes of a word in ascending address order (R132). -/
theorem wordOf_fields (b0 b1 b2 b3 : Byte) : field (wordOf b0 b1 b2 b3) 0 8 = b0 ∧ field (wordOf b0 b1 b2 b3) 8 8 = b1 ∧
    field (wordOf b0 b1 b2 b3) 16 8 = b2 ∧ field (wordOf b0 b1 b2 b3) 24 8 = b3 := by
  unfold wordOf
  simp (disch := omega) only [field_or, field_place, field_place_apart, BitVec.ofNat_eq_ofNat, BitVec.or_zero, BitVec.zero_or,
    and_self]

/-- The gathered bytes in their places (R132). -/
theorem State.gatherByte_of_lt (s : State) {g : List Byte} {p : Nat} (h : p < g.length) : g[p]? = some (s.gatherByte g p) := by
  unfold State.gatherByte
  rw [List.getD_eq_getElem _ _ h, List.getElem?_eq_getElem h]

/-- The fields of the closing header (R135). -/
theorem closingHeader_fields (len : Nat) (seq : Byte) (truncated : Bool) :
    field (closingHeader len seq truncated) 0 16 = BitVec.ofNat 16 len ∧ field (closingHeader len seq truncated) 16 8 = seq ∧
      field (closingHeader len seq truncated) 24 3 = SlotState.ready.code ∧
      (closingHeader len seq truncated).getLsbD 31 = truncated := by
  unfold closingHeader
  simp (disch := omega) only [field_or, field_place, field_place_apart, field_placeBit_apart, BitVec.getLsbD_or,
    placeBit_bit_same, place_bit_apart, BitVec.ofNat_eq_ofNat, BitVec.or_zero, BitVec.zero_or, Bool.false_or, and_self]

/-- The fields of a notice record (11.6). -/
theorem Notice.word0_fields (x : Notice) : field x.word0 0 8 = x.kind.code ∧ field x.word0 8 8 = x.source ∧
    field x.word0 16 8 = x.slot ∧ field x.word0 24 8 = x.seq := wordOf_fields ..

theorem Notice.word1_fields (x : Notice) : field x.word1 0 16 = x.detail ∧ field x.word1 16 16 = x.number := by
  unfold Notice.word1
  simp (disch := omega) only [field_or, field_place, field_place_apart, BitVec.ofNat_eq_ofNat, BitVec.or_zero, BitVec.zero_or,
    and_self]

/-! ### The access of each requester -/

theorem State.serves_iff (s : State) (c : ChanId) (d : Direction) (n : LaneId) :
    s.serves c d n = true ↔ (s.chan c).state = .running ∧ (s.chan c).dir = d ∧ (s.chan c).lane = n := by
  unfold State.serves
  rw [Bool.and_eq_true, Bool.and_eq_true, Channel.running_iff, beq_iff_eq, beq_iff_eq, and_assoc]

/-- A send mover's read falls on the slot being sent (R114). -/
theorem State.sendAccess_falls {s : State} (hinv : Inv s) {n : LaneId} (hmover : (s.lane n).snd.mover = .waiting)
    {q : SendRecord} (hcur : (s.lane n).snd.cur = some q) :
    (s.slot q.chan q.slot).state = .sending ∧
      (s.sendAccess q).addr.toNat = (s.chan q.chan).base.toNat + q.slot * (s.chan q.chan).size + 4 * (q.read / 4 + 1) ∧
      ∀ i < 4, (s.sendAccess q).be.getLsbD i = decide (q.read + i < q.len) := by
  obtain ⟨hserves, hsending, hlen⟩ := (hinv.sends.2 n).2 q hcur
  obtain ⟨hrun, _, _⟩ := (s.serves_iff ..).mp hserves
  obtain ⟨_, _, _, hread, _⟩ := (hinv.records n).1.1 q hcur
  obtain ⟨_, _, _, _, _, _, hstop, _⟩ := hinv.channels q.chan hrun
  have hk := State.slot_lt_count hinv.tracker hrun (k := q.slot) (by rw [hsending]; exact SlotState.noConfusion)
  have hlt := SlotRecLaw.payload_lt (State.slotRecLaw hinv.tracker hrun hk) (i := q.read)
    (by rw [hlen]; exact hread (.inl hmover))
  refine ⟨hsending, (Channel.wordAddr_toNat hstop hk hlt).1, fun i hi => ?_⟩
  change (lowEnables (min 4 (q.len - q.read))).getLsbD i = _
  rw [lowEnables_bit (Nat.min_le_left ..) hi, decide_eq_decide]
  omega

/-- The gather word of a receive mover falls on its FILLING slot (R132). -/
theorem State.recvAccess_gather {s : State} {x : RecvSide} {q : FillRecord} (hg : x.gather ≠ []) (hgather : x.gather.length ≤ 4)
    (hstop : (s.chan q.chan).extent.stop ≤ 0x1000000) (hk : q.slot < (s.chan q.chan).count.toNat)
    (hrec : SlotRecLaw (s.chan q.chan) (s.slot q.chan q.slot)) (hlen : x.gather.length ≤ (s.slot q.chan q.slot).len) :
    (s.recvAccess x q).addr.toNat = (s.chan q.chan).base.toNat + q.slot * (s.chan q.chan).size +
        4 * (1 + ((s.slot q.chan q.slot).len - x.gather.length) / 4) ∧
      (s.recvAccess x q).addr.toNat < (s.chan q.chan).base.toNat + (q.slot + 1) * (s.chan q.chan).size ∧
      (∀ i < 4, (s.recvAccess x q).be.getLsbD i = decide (i < x.gather.length)) ∧
      ∃ w, (s.recvAccess x q).write = some w ∧ ∀ i < x.gather.length, x.gather[i]? = some (w.extractLsb' (8 * i) 8) := by
  have hpos := List.length_pos_iff.mpr hg
  obtain ⟨haddr, hlt⟩ := Channel.wordAddr_toNat hstop hk
    (SlotRecLaw.payload_lt hrec (i := (s.slot q.chan q.slot).len - x.gather.length) (by omega))
  have haccess : s.recvAccess x q = ⟨(s.chan q.chan).wordAddr q.slot (((s.slot q.chan q.slot).len - x.gather.length) / 4 + 1),
      lowEnables x.gather.length, some (wordOf (s.gatherByte x.gather 0) (s.gatherByte x.gather 1) (s.gatherByte x.gather 2)
        (s.gatherByte x.gather 3))⟩ := if_neg (by rwa [List.isEmpty_iff])
  rw [haccess]
  refine ⟨by rw [haddr, Nat.add_comm 1], hlt, fun i hi => lowEnables_bit hgather hi, _, rfl, fun i hi => ?_⟩
  obtain ⟨h0, h1, h2, h3⟩ := wordOf_fields (s.gatherByte x.gather 0) (s.gatherByte x.gather 1) (s.gatherByte x.gather 2)
    (s.gatherByte x.gather 3)
  rw [s.gatherByte_of_lt hi]
  have hi4 : i < 4 := by omega
  match i, hi4 with
  | 0, _ => exact congrArg some h0.symm
  | 1, _ => exact congrArg some h1.symm
  | 2, _ => exact congrArg some h2.symm
  | 3, _ => exact congrArg some h3.symm

/-- The closing header falls on word 0 of its slot (R135). -/
theorem State.recvAccess_header {s : State} {x : RecvSide} {q : FillRecord} (hg : x.gather = [])
    (hstop : (s.chan q.chan).extent.stop ≤ 0x1000000) (hk : q.slot < (s.chan q.chan).count.toNat)
    (hlen : (s.slot q.chan q.slot).len < 65536) :
    (s.recvAccess x q).addr.toNat = (s.chan q.chan).base.toNat + q.slot * (s.chan q.chan).size ∧
      (s.recvAccess x q).be = 0xF ∧
      ∃ w, (s.recvAccess x q).write = some w ∧ (w.extractLsb' 0 16).toNat = (s.slot q.chan q.slot).len ∧
        w.extractLsb' 16 8 = (s.chan q.chan).seqCtr ∧ w.extractLsb' 24 3 = 5 ∧ w.getLsbD 31 = q.truncated := by
  have haccess : s.recvAccess x q = ⟨(s.chan q.chan).wordAddr q.slot 0, 0xF,
      some (closingHeader (s.slot q.chan q.slot).len (s.chan q.chan).seqCtr q.truncated)⟩ := if_pos (by rw [hg]; rfl)
  obtain ⟨hlength, hseq, hstate, htruncated⟩ :=
    closingHeader_fields (s.slot q.chan q.slot).len (s.chan q.chan).seqCtr q.truncated
  rw [haccess]
  refine ⟨(Channel.wordAddr_toNat hstop hk (s.chan q.chan).size_pos).1, rfl, _, rfl, ?_, hseq, hstate, htruncated⟩
  refine (congrArg BitVec.toNat hlength).trans ?_
  rw [BitVec.toNat_ofNat, Nat.mod_eq_of_lt hlen]

/-- A notice word falls on the ring record at the producer index (R166, R167). -/
theorem State.noticeAccess_falls {s : State} (hring : RingLaw s) (hplace : RingPlaceLaw s) (hwriter : s.nu.writer ≠ .idle)
    (x : Notice) : s.dev.ringSize ≠ 0 ∧ (s.noticeAccess x).be = 0xF ∧
      (s.nu.writer = .word0Waiting → (s.noticeAccess x).addr.toNat =
          s.dev.ringBase.toNat + 8 * (s.nu.prod.toNat % ringRecords s.dev.ringSize) ∧
        (s.noticeAccess x).write = some x.word0) ∧
      (s.nu.writer = .word1Waiting → (s.noticeAccess x).addr.toNat =
          s.dev.ringBase.toNat + 8 * (s.nu.prod.toNat % ringRecords s.dev.ringSize) + 4 ∧
        (s.noticeAccess x).write = some x.word1) := by
  obtain ⟨_, hseven, _, hroom⟩ := hring
  have hlt := (hroom hwriter).2
  have hsize : s.dev.ringSize ≠ 0 := by
    intro h0
    rw [h0] at hlt
    exact absurd hlt (Nat.not_lt_zero _)
  have hindex := Nat.mod_lt s.nu.prod.toNat (ringRecords_pos hsize hseven)
  have hstop : s.dev.ringBase.toNat + 8 * ringRecords s.dev.ringSize ≤ 0x1000000 := (hplace.2 hsize).1
  refine ⟨hsize, ?_, fun h => ?_, fun h => ?_⟩
  · unfold State.noticeAccess
    dsimp only
    split
    · rfl
    · rfl
  · unfold State.noticeAccess
    dsimp only
    rw [h, if_neg (by decide)]
    exact ⟨by rw [BitVec.toNat_ofNat, Nat.mod_eq_of_lt (by omega)], rfl⟩
  · unfold State.noticeAccess
    dsimp only
    rw [h, if_pos (by decide)]
    exact ⟨by rw [BitVec.toNat_ofNat, Nat.mod_eq_of_lt (by omega)], rfl⟩

/-- What an internal grant has granted (R146, R150). -/
theorem granted_access {s t : State} {who : Requester} {a : MemAccess} (hinv : Inv s) (hfree : s.arb.port = none)
    (hexec : exec .memoryPortGrant s = .next t) (hport : t.arb.port = some ⟨who, a⟩) :
    who ≠ .host ∧ s.presented who = true ∧ s.internalAccess who = some a := by
  by_cases hdue : s.internalContending = true ∧ (s.stands .host = false ∨ s.dev.patience ≤ s.arb.patienceCtr)
  · obtain ⟨p, hp, hgrant⟩ := exec_memoryPortGrant_due hfree hdue.1 hdue.2
    have hpresented := State.presented_of_contends (State.contends_of_candidates s hp)
    obtain ⟨b, hb⟩ := State.internalAccess_isSome hinv.ring hinv.records (requesterAt_ne_host p) hpresented
    obtain ⟨count, hcount⟩ := State.grantInternal_eq hb
    rw [hgrant, hcount, Host.Outcome.next.injEq] at hexec
    rw [← hexec] at hport
    obtain ⟨hwho, ha⟩ := PortAccess.mk.inj (Option.some.inj hport)
    rw [← hwho, ← ha]
    exact ⟨requesterAt_ne_host p, hpresented, hb⟩
  · rw [exec_memoryPortGrant_none, Host.Outcome.next.injEq] at hexec
    · rw [← hexec, hfree] at hport
      cases hport
    · rw [Classical.not_and_iff_not_or_not, not_or, Bool.not_eq_true, Bool.not_eq_false, BitVec.not_le] at hdue
      exact .inr hdue

/-- Settles O43: each requester's access, by the record that its request stands for. -/
theorem grantedAccessFallsWhereItMay : Obligations.GrantedAccessFallsWhereItMay := by
  intro s t who a hinv hfree hexec hport
  obtain ⟨hne, hpresented, haccess⟩ := granted_access hinv hfree hexec hport
  refine ⟨?_, ?_, ?_, hne⟩
  · rintro n rfl
    have hmover := eq_of_beq hpresented
    obtain ⟨q, hq⟩ := (hinv.records n).1.record (.inl hmover)
    rw [State.internalAccess, hq, Option.map_some, Option.some.injEq] at haccess
    rw [← haccess]
    obtain ⟨hsending, haddr, hbe⟩ := State.sendAccess_falls hinv hmover hq
    exact ⟨q, hq, rfl, hsending, haddr, hbe⟩
  · rintro n rfl
    have hmover := eq_of_beq hpresented
    obtain ⟨q, hq⟩ := (hinv.records n).2.record (.inl hmover)
    have htarget : (s.lane n).rcv.target = some (q.chan, q.slot) := by
      unfold RecvSide.target
      rcases hq with hq | hq <;> rw [hq]
    have haccess' : s.recvAccess (s.lane n).rcv q = a := by
      rcases hq with hq | hq <;> exact Option.some.inj (by rw [State.internalAccess, hq] at haccess; exact haccess)
    obtain ⟨hserves, hfilling, hstands⟩ := (hinv.fills.2 n).1 _ htarget
    obtain ⟨hrun, _, _⟩ := (s.serves_iff ..).mp hserves
    obtain ⟨_, _, hcode, _, _, _, hstop, _⟩ := hinv.channels q.chan hrun
    have hk := State.slot_lt_count hinv.tracker hrun (k := q.slot) (by rw [hfilling]; exact SlotState.noConfusion)
    have hrec := State.slotRecLaw hinv.tracker hrun hk
    obtain ⟨_, _, _, _, hgather, _⟩ := hinv.buffers n
    have hlen := (of_decide_eq_true hstands).1
    refine ⟨q, hq, hserves, hfilling, hk, fun g hg => ⟨fun hsome => ?_, fun hnone => ?_⟩⟩
    · rw [← haccess', hg]
      exact State.recvAccess_gather (hg ▸ hsome) hgather hstop hk hrec hlen
    · rw [← haccess']
      refine ⟨hq.resolve_left fun hfill => ?_, State.recvAccess_header (hg ▸ hnone) hstop hk (hrec.len_lt hcode)⟩
      have hfour := (hinv.records n).2.1 (by rw [hfill]; rfl) (.inl hmover)
      rw [← hg, hnone] at hfour
      cases hfour
  · rintro rfl
    obtain ⟨_, _, _, hwriter⟩ := hinv.ring
    have hwaiting : s.nu.writer = .word0Waiting ∨ s.nu.writer = .word1Waiting := by
      simpa [State.presented] using hpresented
    have hidle : s.nu.writer ≠ .idle := by
      rcases hwaiting with h | h <;> rw [h] <;> exact WriterState.noConfusion
    obtain ⟨x, rest, hx⟩ := List.exists_cons_of_ne_nil (hwriter hidle).1
    rw [State.internalAccess, hx, List.head?_cons, Option.map_some, Option.some.injEq] at haccess
    obtain ⟨hsize, hbe, h0, h1⟩ := State.noticeAccess_falls hinv.ring hinv.ringPlace hidle x
    rw [haccess] at hbe h0 h1
    exact ⟨x, rest, hx, hbe, hsize, fun h => ⟨(h0 h).1, _, (h0 h).2, x.word0_fields⟩,
      fun h => ⟨(h1 h).1, _, (h1 h).2, x.word1_fields⟩⟩

end Sys2Proof.Machine
end

section
/-! SUPPORT. Consumption does not look at the arbiter, the count of free values or a channel's GUARD (R125); with it the release of
a READY slot and the stop of one channel (R48 to R50, R70, R121, R142). -/

namespace Sys2Proof.Machine

/-! ### The state with another arbiter, count of free values and GUARD of every channel -/

/-- s with this arbiter, count of free values, and GUARD of every channel. -/
def State.dressed (s : State) (g : HostGrant) (guard : ChanId → BitVec 2) : State :=
  { s with
    arb := g.arb
    freeCount := g.freeCount
    chans := Vector.ofFn fun c => { s.chan c with guard := guard c } }

section dressed
variable (g : HostGrant) (guard : ChanId → BitVec 2)

theorem State.dressed_chan (s : State) (c : ChanId) : (s.dressed g guard).chan c = { s.chan c with guard := guard c } := by
  unfold State.dressed
  exact Vector.getElem_ofFn ..

theorem State.dressed_slot (s : State) (c : ChanId) (k : Nat) : (s.dressed g guard).slot c k = s.slot c k := by
  unfold State.slot
  rw [State.dressed_chan]
  rfl

/-- Two states that differ in their channels alone are the same when their channels are. -/
theorem State.ext_chans {s t u : State} (ht : t = { s with chans := t.chans }) (hu : u = { s with chans := u.chans })
    (h : ∀ c, t.chan c = u.chan c) : t = u := by
  rw [ht, hu, chans_ext (v := t.chans) (w := u.chans) h]

theorem State.dressed_setRcv (s : State) (n : LaneId) (x : RecvSide) :
    (s.dressed g guard).setRcv n x = (s.setRcv n x).dressed g guard := rfl

/-- An update of a channel's record that keeps the GUARD of the dressing. -/
theorem State.dressed_setChan (s : State) (c : ChanId) (ch : Channel) :
    (s.dressed g guard).setChan c { ch with guard := guard c } = (s.setChan c ch).dressed g guard := by
  refine State.ext_chans (s := s.dressed g guard) rfl rfl fun d => ?_
  rw [State.chan_setChan, State.dressed_chan, State.dressed_chan, State.chan_setChan]
  split
  · rename_i h
    rw [h]
  · rfl

theorem State.dressed_setSlot (s : State) (c : ChanId) (k : Nat) (r : SlotRec) :
    (s.dressed g guard).setSlot c k r = (s.setSlot c k r).dressed g guard := by
  unfold State.setSlot
  rw [State.dressed_chan]
  exact State.dressed_setChan g guard s c { s.chan c with slots := (s.chan c).slots.set k r }

theorem State.dressed_countFault (s : State) (c : ChanId) :
    (s.dressed g guard).countFault c = (s.countFault c).dressed g guard := by
  unfold State.countFault
  rw [State.dressed_chan]
  exact State.dressed_setChan g guard s c { s.chan c with faults := (s.chan c).faults + 1 }

theorem State.dressed_chanNotice (s : State) (c : ChanId) (kind : NoticeKind) (slot seq : Byte) (detail : BitVec 16) :
    (s.dressed g guard).chanNotice c kind slot seq detail = (s.chanNotice c kind slot seq detail).dressed g guard := by
  rw [State.chanNotice_eq, State.chanNotice_eq, State.dressed_chan]
  rfl

theorem State.dressed_generate (s : State) (kind : NoticeKind) (source slot seq : Byte) (detail : BitVec 16) :
    (s.dressed g guard).generate kind source slot seq detail =
      (s.generate kind source slot seq detail).dressed g guard := by
  rw [State.generate_eq, State.generate_eq]
  rfl

theorem State.dressed_wakeSlot (s : State) (c : ChanId) (k : Nat) :
    (s.dressed g guard).wakeSlot c k = (s.wakeSlot c k).dressed g guard := by
  have hhost : ((s.dressed g guard).wakeSlot c k).host = (s.wakeSlot c k).host :=
    State.wakeSlot_host_congr (s := s.dressed g guard) (t := s) rfl rfl c k
  rw [State.wakeSlot_eq, hhost, State.wakeSlot_eq s]
  rfl

theorem State.dressed_freeSlot (s : State) (c : ChanId) (k : Nat) :
    (s.dressed g guard).freeSlot c k = (s.freeSlot c k).dressed g guard := by
  unfold State.freeSlot
  rw [State.dressed_setSlot, State.dressed_wakeSlot]

/-! ### Consumption under another dressing -/

theorem State.dressed_dropRecord (s : State) (n : LaneId) (q : FillRecord) (detail : BitVec 16) (after : RecvState) :
    (s.dressed g guard).dropRecord n q detail after = (s.dropRecord n q detail after).dressed g guard := by
  unfold State.dropRecord
  dsimp only
  rw [State.dressed_setRcv, State.dressed_freeSlot, State.dressed_countFault, State.dressed_chanNotice]
  rfl

theorem State.dressed_dropWaiting (s : State) (n : LaneId) (c : ChanId) (detail : BitVec 16) (after : RecvState) :
    (s.dressed g guard).dropWaiting n c detail after = (s.dropWaiting n c detail after).dressed g guard := by
  unfold State.dropWaiting
  rw [State.dressed_setRcv, State.dressed_countFault, State.dressed_chanNotice]
  rfl

theorem State.dressed_takeMark (s : State) (n : LaneId) (m : EndMark) :
    (s.dressed g guard).takeMark n m = (s.takeMark n m).dressed g guard := by
  have hlane : (s.dressed g guard).lane n = s.lane n := rfl
  unfold State.takeMark
  rw [hlane]
  cases (s.lane n).rcv.state with
  | filling q => exact State.dressed_dropRecord ..
  | slotWait c ended =>
    cases ended with
    | true => rfl
    | false => exact State.dressed_dropWaiting ..
  | discarding => rfl
  | closing q => rfl
  | idle => rfl

theorem State.dressed_pick (s : State) (n : LaneId) (c : ChanId) (k : Nat) :
    (s.dressed g guard).pick n c k = (s.pick n c k).dressed g guard := by
  rw [State.pick_eq, State.pick_eq, State.dressed_chan, ← State.dressed_setRcv, ← State.dressed_setChan]
  rfl

theorem State.dressed_routed (s : State) (n : LaneId) (code : BitVec 4) :
    (s.dressed g guard).routed n code = s.routed n code := by
  unfold State.routed
  congr 1
  funext c
  rw [State.dressed_chan]
  rfl

theorem State.dressed_routeRecord (s : State) (n : LaneId) (b : Byte) :
    (s.dressed g guard).routeRecord n b = (s.routeRecord n b).dressed g guard := by
  have hfree : ∀ c, ((s.dressed g guard).chan c).findFree = (s.chan c).findFree := fun c => by
    rw [State.dressed_chan]
    rfl
  unfold State.routeRecord
  dsimp only
  rw [State.dressed_routed]
  cases s.routed n (b.extractLsb' 0 4) with
  | some c =>
    dsimp only
    rw [hfree]
    cases (s.chan c).findFree with
    | some k => exact State.dressed_pick ..
    | none => rfl
  | none =>
    dsimp only
    have hlane : (s.dressed g guard).lane n = s.lane n := rfl
    rw [hlane, State.dressed_setRcv, State.dressed_generate]
    split
    · rfl
    · rfl

theorem State.dressed_storeByte (s : State) (n : LaneId) (q : FillRecord) (b : Byte) :
    (s.dressed g guard).storeByte n q b = (s.storeByte n q b).dressed g guard := by
  have hcap : ((s.dressed g guard).chan q.chan).capacity = (s.chan q.chan).capacity := by
    rw [State.dressed_chan]
    rfl
  unfold State.storeByte
  dsimp only
  rw [State.dressed_slot, hcap]
  split
  · rw [State.dressed_setSlot, State.dressed_setRcv]
    rfl
  · rfl

theorem State.dressed_consumeEntry (s : State) (n : LaneId) (e : RxEntry) :
    (s.dressed g guard).consumeEntry n e = (s.consumeEntry n e).dressed g guard := by
  obtain ⟨b, last, mark⟩ := e
  have hbare : (s.dressed g guard).consumeEntry n ⟨b, last, none⟩ = (s.consumeEntry n ⟨b, last, none⟩).dressed g guard := by
    have hlast : ∀ t : State, (t.dressed g guard).afterLast n last = (t.afterLast n last).dressed g guard := by
      intro t
      unfold State.afterLast
      cases last <;> rfl
    have hlane : (s.dressed g guard).lane n = s.lane n := rfl
    cases hstate : (s.lane n).rcv.state with
    | idle =>
      rw [State.consumeEntry_idle (hlane ▸ hstate), State.consumeEntry_idle hstate, State.dressed_routeRecord, hlast]
    | filling q =>
      rw [State.consumeEntry_filling (hlane ▸ hstate), State.consumeEntry_filling hstate, State.dressed_storeByte, hlast]
    | discarding | slotWait | closing =>
      rw [State.consumeEntry_other (s := s.dressed g guard) (by rw [hlane, hstate]; exact RecvState.noConfusion)
          (by rw [hlane, hstate]; exact fun _ => RecvState.noConfusion),
        State.consumeEntry_other (s := s) (by rw [hstate]; exact RecvState.noConfusion)
          (by rw [hstate]; exact fun _ => RecvState.noConfusion), hlast]
  cases mark with
  | none => exact hbare
  | some m => rw [State.consumeEntry_mark, State.consumeEntry_mark, hbare, State.dressed_takeMark]

theorem State.dressed_consume (fuel : Nat) (s : State) (n : LaneId) :
    (s.dressed g guard).consume fuel n = (s.consume fuel n).dressed g guard := by
  induction fuel generalizing s with
  | zero => rfl
  | succ f ih =>
    have hlane : (s.dressed g guard).lane n = s.lane n := rfl
    unfold State.consume
    rw [hlane]
    cases (s.lane n).rcv.rx with
    | nil => rfl
    | cons e rest =>
      dsimp only
      cases (s.lane n).rcv.consumes with
      | false => rfl
      | true =>
        have hpop : (s.dressed g guard).popRx n rest = (s.popRx n rest).dressed g guard := rfl
        rw [if_pos rfl, if_pos rfl, hpop, State.dressed_consumeEntry, ih]

/-- Consumption is the same under every dressing (R125). -/
theorem State.dressed_drain (s : State) (n : LaneId) : (s.dressed g guard).drain n = (s.drain n).dressed g guard :=
  State.dressed_consume g guard _ s n

end dressed

/-- With every GUARD as it is, the dressing is the arbiter and the count alone. -/
theorem State.dressed_eq {t : State} (g : HostGrant) {guard : ChanId → BitVec 2} (h : ∀ c, (t.chan c).guard = guard c) :
    t.dressed g guard = { t with arb := g.arb, freeCount := g.freeCount } := by
  refine State.ext_chans (s := { t with arb := g.arb, freeCount := g.freeCount }) rfl rfl fun c => ?_
  rw [State.dressed_chan, ← h c]
  rfl

theorem State.countPatience_dressed (s : State) :
    s.countPatience = s.dressed s.granted fun c => (s.chan c).guard := by
  rw [State.dressed_eq s.granted fun _ => rfl, State.countPatience_eq]

/-- Consumption leaves every GUARD. -/
theorem State.drain_guard (s : State) (n : LaneId) (c : ChanId) : ((s.drain n).chan c).guard = (s.chan c).guard := by
  have hsetup := congrArg Channel.guard ((LaneEvent.drain s n).setup c)
  exact hsetup

/-! ### Releases (R70, R131) -/

/-- A release that no record waits for frees the slot alone (R70). -/
theorem State.slotReleased_ignored {s : State} {c : ChanId}
    (h : ∀ ended, (s.lane (s.chan c).lane).rcv.state ≠ .slotWait c ended) : s.slotReleased c = s := by
  unfold State.slotReleased
  dsimp only
  split
  · rename_i d ended k hstate _
    refine if_neg fun hdc => h ended ?_
    rw [hstate, hdc]
  · rfl

/-- A waiting record picks the slot that the search finds, and the side goes on (R131). -/
theorem State.slotReleased_waiting {s : State} {c : ChanId} {ended : Bool} {k : Nat}
    (h : (s.lane (s.chan c).lane).rcv.state = .slotWait c ended) (hfind : (s.chan c).findFree = some k) :
    s.slotReleased c = ((s.pick (s.chan c).lane c k).afterLast (s.chan c).lane ended).drain (s.chan c).lane := by
  unfold State.slotReleased State.afterLast
  dsimp only
  rw [h, hfind]
  exact if_pos rfl

/-- The side of a waiting record that has picked slot k (R131, R135). -/
theorem State.pick_afterLast (s : State) (n : LaneId) (c : ChanId) (k : Nat) (ended : Bool) :
    (s.pick n c k).afterLast n ended = (s.setChan c { s.chan c with
      slots := (s.chan c).slots.set k ⟨.filling, 0, 0⟩
      fillPtr := (k + 1) % (s.chan c).count.toNat }).setRcv n { (s.lane n).rcv with
        gather := []
        slotWaitTimer := none
        state := if ended then RecvState.closing ⟨c, k, false⟩ else RecvState.filling ⟨c, k, false⟩
        mover := if ended = true ∧ (s.lane n).rcv.mover = Mover.none then Mover.waiting else (s.lane n).rcv.mover } := by
  rw [State.pick_eq, State.afterLast_setRcv, RecvSide.afterLast_filling rfl]

/-- Settles O35: the released slot is the one the search finds, and consumption does not look at the grant. -/
theorem releaseFreesTheSlot : Obligations.ReleaseFreesTheSlot := by
  intro s r c k hg hcls hwrite hdir hready n x
  have hexec : exec .release s = .next ((s.countPatience.takeRelease c k).performWrite r false) := by
    change Host.Outcome.next (s.grantWhen _ _) = _
    rw [grantWhen_meaning hg hcls hwrite (m := .release)]
    · rfl
    · unfold State.headerMeaningOf
      rw [hdir, hready]
      rfl
  obtain ⟨u, hu⟩ : ∃ u : State, u = s.setSlot c k SlotRec.free := ⟨_, rfl⟩
  have huchan : u.chan c = { s.chan c with slots := (s.chan c).slots.set k SlotRec.free } := by
    rw [hu, State.setSlot_chan_same]
  have hulane : ∀ j, u.lane j = s.lane j := fun j => by rw [hu]; rfl
  have hguard : ∀ d, (u.chan d).guard = (s.chan d).guard := by
    intro d
    rw [hu, State.setSlot_chan]
    split
    · rename_i h
      rw [h]
    · rfl
  have htake : s.countPatience.takeRelease c k = (u.dressed s.granted fun d => (s.chan d).guard).slotReleased c := by
    unfold State.takeRelease
    rw [State.countPatience_dressed, State.dressed_setSlot, hu]
  have hdlane : (((u.dressed s.granted fun d => (s.chan d).guard).chan c).lane) = n := by
    rw [State.dressed_chan, huchan]
  have hdrcv : ∀ j, (u.dressed s.granted fun d => (s.chan d).guard).lane j = s.lane j := hulane
  rw [hexec, htake]
  refine ⟨fun hwait => ?_, fun ended hwait hk hlength hptr hfull => ?_⟩
  · rw [State.slotReleased_ignored (by rw [hdlane, hdrcv]; exact hwait), State.dressed_eq s.granted hguard, hu]
    rfl
  · have hfind : ((u.dressed s.granted fun d => (s.chan d).guard).chan c).findFree = some k := by
      rw [State.dressed_chan, huchan]
      have hslot : ∀ j, Channel.slot { s.chan c with
          slots := (s.chan c).slots.set k SlotRec.free, guard := (s.chan c).guard } j =
          if k = j ∧ j < (s.chan c).slots.length then SlotRec.free else s.slot c j := fun j => Channel.slot_set ..
      refine Channel.findFree_some hptr hk ?_ fun j hj hjfree => ?_
      · rw [hslot, if_pos ⟨rfl, by rw [hlength]; exact hk⟩]
        rfl
      · by_cases hkj : k = j
        · rw [hkj]
        · rw [hslot, if_neg fun h => hkj h.1] at hjfree
          exact absurd hjfree (hfull j hj)
    rw [State.slotReleased_waiting (by rw [hdlane, hdrcv]; exact hwait) hfind, hdlane, State.pick_afterLast]
    obtain ⟨v, hv⟩ : ∃ v : State, v = (s.setChan c { s.chan c with
        slots := (s.chan c).slots.set k ⟨.filling, 0, 0⟩
        fillPtr := (k + 1) % (s.chan c).count.toNat }).setRcv n { x with
          gather := []
          slotWaitTimer := none
          state := if ended then RecvState.closing ⟨c, k, false⟩ else RecvState.filling ⟨c, k, false⟩
          mover := if ended = true ∧ x.mover = Mover.none then Mover.waiting else x.mover } := ⟨_, rfl⟩
    have hvguard : ∀ d, ((v.drain n).chan d).guard = (s.chan d).guard := by
      intro d
      rw [State.drain_guard, hv, State.setRcv_chan, State.chan_setChan]
      split
      · rename_i h
        rw [h]
      · rfl
    have hpicked : ((u.dressed s.granted fun d => (s.chan d).guard).setChan c
        { (u.dressed s.granted fun d => (s.chan d).guard).chan c with
          slots := ((u.dressed s.granted fun d => (s.chan d).guard).chan c).slots.set k ⟨.filling, 0, 0⟩
          fillPtr := (k + 1) % ((u.dressed s.granted fun d => (s.chan d).guard).chan c).count.toNat }) =
        (s.setChan c { s.chan c with
          slots := (s.chan c).slots.set k ⟨.filling, 0, 0⟩
          fillPtr := (k + 1) % (s.chan c).count.toNat }).dressed s.granted fun d => (s.chan d).guard := by
      have hset (ch : Channel) : u.setChan c ch = s.setChan c ch := by rw [hu, State.setSlot, State.setChan_setChan]
      rw [← hset, ← State.dressed_setChan, State.dressed_chan, huchan]
      dsimp only
      rw [List.set_set]
    rw [hpicked, hdrcv, State.dressed_setRcv, ← hv, State.dressed_drain, State.dressed_eq s.granted hvguard, hv]
    rfl

end Sys2Proof.Machine
end

section
/-! SUPPORT. One receive side with the slots of its channels: the laws of R56, R61, R124, R125, R128 and R132 for one lane, and what
each operation of the receive side keeps of them. -/

namespace Sys2Proof.Machine

/-! ### The slots of a channel -/

/-- The slot tracker of a RUNNING channel (R56, R61). -/
structure Channel.Tracked (ch : Channel) : Prop where
  length : ch.slots.length = ch.count.toNat
  ptr : ch.fillPtr < ch.count.toNat
  slots : ∀ k < ch.count.toNat, SlotRecLaw ch (ch.slot k)

theorem Channel.tracked_iff (ch : Channel) : ch.Tracked ↔
    ch.slots.length = ch.count.toNat ∧ ch.fillPtr < ch.count.toNat ∧ ∀ r ∈ ch.slots, SlotRecLaw ch r := by
  refine ⟨fun ⟨hlength, hptr, hslots⟩ => ⟨hlength, hptr, fun r hr => ?_⟩, fun ⟨hlength, hptr, hslots⟩ => ⟨hlength, hptr,
    fun k hk => ?_⟩⟩
  · obtain ⟨k, hk, rfl⟩ := List.mem_iff_getElem.mp hr
    have hslot := hslots k (hlength ▸ hk)
    unfold Channel.slot at hslot
    rwa [List.getD_eq_getElem _ _ hk] at hslot
  · unfold Channel.slot
    rw [List.getD_eq_getElem _ _ (hlength ▸ hk)]
    exact hslots _ (List.getElem_mem _)

/-- A slot that is not FREE is one of the channel's. -/
theorem Channel.Tracked.lt {ch : Channel} (h : ch.Tracked) {k : Nat} (hk : (ch.slot k).state ≠ .free) :
    k < ch.count.toNat := by
  rw [← h.length]
  by_contra hge
  refine hk ?_
  unfold Channel.slot
  rw [List.getD_eq_default _ _ (Nat.le_of_not_lt hge)]
  rfl

/-- The channels of t are those of s, but for the slots and the counters of c. -/
structure SlotMove (s t : State) (c : ChanId) : Prop where
  setup : ∀ d, (t.chan d).setup = (s.chan d).setup
  other : ∀ d, c ≠ d → t.chan d = s.chan d
  length : (t.chan c).slots.length = (s.chan c).slots.length
  ptr : (s.chan c).fillPtr < (s.chan c).count.toNat → (t.chan c).fillPtr < (s.chan c).count.toNat

/-- The slots of t are those of s with r in slot k of channel c. -/
def SlotPut (s t : State) (c : ChanId) (k : Nat) (r : SlotRec) : Prop :=
  ∀ d j, t.slot d j = if c = d ∧ k = j ∧ j < (s.chan d).slots.length then r else s.slot d j

theorem setup_same {ch ch' : Channel} (h : ch'.setup = ch.setup) : ch'.state = ch.state ∧ ch'.dir = ch.dir ∧
    ch'.lane = ch.lane ∧ ch'.count = ch.count ∧ ch'.sizeCode = ch.sizeCode := by
  have hstate := congrArg Channel.state h
  have hdir := congrArg Channel.dir h
  have hlane := congrArg Channel.lane h
  have hcount := congrArg Channel.count h
  have hsize := congrArg Channel.sizeCode h
  exact ⟨hstate, hdir, hlane, hcount, hsize⟩

theorem serves_same {s t : State} {c : ChanId} (h : (t.chan c).setup = (s.chan c).setup) (d : Direction) (n : LaneId) :
    t.serves c d n = s.serves c d n := by
  obtain ⟨hstate, hdir, hlane, _⟩ := setup_same h
  unfold State.serves Channel.running
  rw [hstate, hdir, hlane]

theorem slotRecLaw_same {ch ch' : Channel} (h : ch'.setup = ch.setup) {r : SlotRec} (hr : SlotRecLaw ch r) :
    SlotRecLaw ch' r := by
  obtain ⟨_, hdir, _, _, hsize⟩ := setup_same h
  unfold SlotRecLaw Channel.capacity Channel.size at hr ⊢
  rwa [hdir, hsize]

/-- A move of the slots keeps a channel's tracker when the slots are still as R61 says. -/
theorem SlotMove.tracked {s t : State} {c : ChanId} (h : SlotMove s t c) {d : ChanId} (ht : (s.chan d).Tracked)
    (hslots : ∀ k < (s.chan d).count.toNat, SlotRecLaw (s.chan d) (t.slot d k)) : (t.chan d).Tracked := by
  obtain ⟨_, _, _, hcount, _⟩ := setup_same (h.setup d)
  by_cases hcd : c = d
  · subst hcd
    refine ⟨by rw [h.length, hcount, ht.length], by rw [hcount]; exact h.ptr ht.ptr, fun k hk => ?_⟩
    exact slotRecLaw_same (h.setup c) (hslots k (hcount ▸ hk))
  · rw [h.other d hcd]
    exact ht

/-- A channel's record with other slots and counters. -/
theorem SlotMove.of_setChan {s t : State} {c : ChanId} {ch : Channel} (ht : ∀ d, t.chan d = (s.setChan c ch).chan d)
    (hsetup : ch.setup = (s.chan c).setup) (hlength : ch.slots.length = (s.chan c).slots.length)
    (hptr : (s.chan c).fillPtr < (s.chan c).count.toNat → ch.fillPtr < (s.chan c).count.toNat) : SlotMove s t c := by
  refine ⟨fun d => ?_, fun d hd => ?_, ?_, ?_⟩
  · rw [ht, State.chan_setChan]
    split
    · rename_i h
      rw [hsetup, h]
    · rfl
  · rw [ht, State.chan_setChan, if_neg hd]
  · rw [ht, State.chan_setChan_same, hlength]
  · rw [ht, State.chan_setChan_same]
    exact hptr

/-- What the slots are once one of a channel's slots is set. -/
theorem SlotPut.of_setChan {s t : State} {c : ChanId} {ch : Channel} {k : Nat} {r : SlotRec}
    (ht : ∀ d, t.chan d = (s.setChan c ch).chan d) (hslots : ch.slots = (s.chan c).slots.set k r) : SlotPut s t c k r := by
  intro d j
  unfold State.slot
  rw [ht, State.chan_setChan]
  by_cases h : c = d
  · subst h
    rw [if_pos rfl]
    have hset := Channel.slot_set (s.chan c) k j r
    unfold Channel.slot at hset ⊢
    rw [hslots, hset]
    simp only [true_and]
  · rw [if_neg h, if_neg fun hh => h hh.1]

/-- Nothing but counters has changed: every slot is as it was. -/
theorem slots_kept_of_setChan {s t : State} {c : ChanId} {ch : Channel} (ht : ∀ d, t.chan d = (s.setChan c ch).chan d)
    (hslots : ch.slots = (s.chan c).slots) (d : ChanId) (j : Nat) : t.slot d j = s.slot d j := by
  unfold State.slot Channel.slot
  rw [ht, State.chan_setChan]
  split
  · rename_i h
    rw [hslots, h]
  · rfl

/-! ### One receive side -/

/-- A receive side by itself (R95, R124, R132). -/
structure RecvShape (x : RecvSide) : Prop where
  buffered : x.rx.length ≤ 16
  gathered : x.gather.length ≤ 4
  asking : x.gather.length = 4 → x.mover = .waiting ∨ x.mover = .busy
  record : RecvRecordLaw x

/-- A receive side with the slots of the channels that it serves (R56, R61, R124, R128, R132). -/
structure RecvHalf (s : State) (n : LaneId) : Prop where
  shape : RecvShape (s.lane n).rcv
  tracked : ∀ c, s.serves c .inbound n = true → (s.chan c).Tracked
  filling : ∀ c, s.serves c .inbound n = true → ∀ k, (s.slot c k).state = .filling → (s.lane n).rcv.target = some (c, k)
  record : FillRecordLaw s n

/-- What an operation of lane n's receive side leaves as it is. -/
structure RecvFrame (s t : State) (n : LaneId) : Prop where
  lane : ∀ k, k ≠ n → t.lane k = s.lane k
  own : t.lane n = { s.lane n with rcv := (t.lane n).rcv }
  setup : ∀ c, (t.chan c).setup = (s.chan c).setup
  chan : ∀ c, s.serves c .inbound n = false → t.chan c = s.chan c

theorem RecvFrame.refl (s : State) (n : LaneId) : RecvFrame s s n := ⟨fun _ _ => rfl, rfl, fun _ => rfl, fun _ _ => rfl⟩

theorem RecvFrame.trans {s t u : State} {n : LaneId} (h : RecvFrame s t n) (h2 : RecvFrame t u n) : RecvFrame s u n where
  lane k hk := (h2.lane k hk).trans (h.lane k hk)
  own := by rw [h2.own, h.own]
  setup c := (h2.setup c).trans (h.setup c)
  chan c hc := (h2.chan c ((serves_same (h.setup c) ..).trans hc)).trans (h.chan c hc)

theorem RecvFrame.of_move {s t : State} {n : LaneId} {c : ChanId} {x : RecvSide} (hmove : SlotMove s t c)
    (hserves : s.serves c .inbound n = true) (hlane : ∀ k, t.lane k = (s.setRcv n x).lane k) : RecvFrame s t n where
  lane k hk := by rw [hlane, State.setRcv_lane, if_neg (Ne.symm hk)]
  own := by rw [hlane, State.setRcv_lane_same]
  setup := hmove.setup
  chan d hd := hmove.other d (by rintro rfl; rw [hserves] at hd; cases hd)

/-- An operation that leaves every channel. -/
theorem RecvFrame.of_rcv {s t : State} {n : LaneId} {x : RecvSide} (hchan : ∀ d, t.chan d = s.chan d)
    (hlane : ∀ k, t.lane k = (s.setRcv n x).lane k) : RecvFrame s t n where
  lane k hk := by rw [hlane, State.setRcv_lane, if_neg (Ne.symm hk)]
  own := by rw [hlane, State.setRcv_lane_same]
  setup d := by rw [hchan]
  chan d _ := hchan d

/-- The half stands when no slot moves and the record stays the one it was. -/
theorem RecvHalf.kept {s t : State} {n : LaneId} {c : ChanId} {x : RecvSide} (h : RecvHalf s n) (hmove : SlotMove s t c)
    (hslot : ∀ d j, t.slot d j = s.slot d j) (hrcv : (t.lane n).rcv = x) (hshape : RecvShape x)
    (htarget : x.target = (s.lane n).rcv.target) (hwaits : ∀ d ∈ x.waitsFor, s.serves d .inbound n = true)
    (hgather : ∀ p ∈ x.target, x.gatherStands (s.slot p.1 p.2).len = true) : RecvHalf t n := by
  have hserves : ∀ d, t.serves d .inbound n = s.serves d .inbound n := fun d => serves_same (hmove.setup d) ..
  refine ⟨by rw [hrcv]; exact hshape, fun d hd => ?_, fun d hd k hk => ?_, fun p hp => ?_, fun d hd => ?_⟩
  · rw [hserves] at hd
    exact hmove.tracked (h.tracked d hd) fun k hk => by rw [hslot]; exact (h.tracked d hd).slots k hk
  · rw [hserves] at hd
    rw [hslot] at hk
    rw [hrcv, htarget, h.filling d hd k hk]
  · rw [hrcv] at hp
    obtain ⟨hp1, hp2, _⟩ := h.record.1 p (htarget ▸ hp)
    rw [hserves, hslot, hrcv]
    exact ⟨hp1, hp2, hgather p hp⟩
  · rw [hrcv] at hd
    rw [hserves]
    exact hwaits d hd

/-- The half stands when slot k of channel c takes r and the record is that slot's, or none. -/
theorem RecvHalf.put {s t : State} {n : LaneId} {c : ChanId} {k : Nat} {r : SlotRec} {x : RecvSide} (h : RecvHalf s n)
    (hserves : s.serves c .inbound n = true) (hmove : SlotMove s t c) (hput : SlotPut s t c k r)
    (hrec : SlotRecLaw (s.chan c) r) (hk : k < (s.chan c).count.toNat)
    (hold : (s.lane n).rcv.target = none ∨ (s.lane n).rcv.target = some (c, k))
    (hrcv : (t.lane n).rcv = x) (hshape : RecvShape x)
    (hnew : r.state = .filling ∧ x.target = some (c, k) ∧ x.gatherStands r.len = true ∨
      r.state ≠ .filling ∧ x.target = none)
    (hwaits : x.waitsFor = none) : RecvHalf t n := by
  have hserves' : ∀ d, t.serves d .inbound n = s.serves d .inbound n := fun d => serves_same (hmove.setup d) ..
  have hlength := (h.tracked c hserves).length
  have hnone : ∀ d j, s.serves d .inbound n = true → ¬(c = d ∧ k = j ∧ j < (s.chan d).slots.length) →
      (s.slot d j).state ≠ .filling := by
    intro d j hd hne hj
    have hlt := (h.tracked d hd).lt (k := j) (by change (s.slot d j).state ≠ _; rw [hj]; exact SlotState.noConfusion)
    have htarget := h.filling d hd j hj
    rcases hold with hold | hold
    · rw [hold] at htarget
      cases htarget
    · rw [hold, Option.some.injEq, Prod.mk.injEq] at htarget
      exact hne ⟨htarget.1, htarget.2, by rw [(h.tracked d hd).length]; exact hlt⟩
  refine ⟨by rw [hrcv]; exact hshape, fun d hd => ?_, fun d hd j hj => ?_, fun p hp => ?_, fun d hd => ?_⟩
  · rw [hserves'] at hd
    refine hmove.tracked (h.tracked d hd) fun j hj => ?_
    rw [hput]
    split
    · rename_i hdj
      rw [← hdj.1]
      exact hrec
    · exact (h.tracked d hd).slots j hj
  · rw [hserves'] at hd
    rw [hput] at hj
    by_cases hdj : c = d ∧ k = j ∧ j < (s.chan d).slots.length
    · rw [if_pos hdj] at hj
      rcases hnew with ⟨_, htarget, _⟩ | ⟨hr, _⟩
      · rw [hrcv, htarget, hdj.1, hdj.2.1]
      · exact absurd hj hr
    · rw [if_neg hdj] at hj
      exact absurd hj (hnone d j hd hdj)
  · rw [hrcv] at hp
    rcases hnew with ⟨hr, htarget, hgather⟩ | ⟨_, htarget⟩
    · rw [htarget, Option.mem_some] at hp
      rw [← hp, hserves', hput, if_pos ⟨rfl, rfl, by rw [hlength]; exact hk⟩, hrcv]
      exact ⟨hserves, hr, hgather⟩
    · rw [htarget] at hp
      cases hp
  · rw [hrcv, hwaits] at hd
    cases hd

/-! ### The operations of a receive side -/

/-- An operation of lane n's receive side keeps its half of the laws and everything else. -/
def RecvStep (s t : State) (n : LaneId) : Prop := RecvHalf t n ∧ RecvFrame s t n

theorem RecvStep.trans {s t u : State} {n : LaneId} (h : RecvStep s t n) (h2 : RecvStep t u n) : RecvStep s u n :=
  ⟨h2.1, h.2.trans h2.2⟩

/-- The side by itself changes, and its record stays the one it was. -/
theorem RecvHalf.setRcv {s : State} {n : LaneId} {x : RecvSide} (h : RecvHalf s n) (hshape : RecvShape x)
    (htarget : x.target = (s.lane n).rcv.target) (hwaits : ∀ d ∈ x.waitsFor, s.serves d .inbound n = true)
    (hgather : ∀ p ∈ x.target, x.gatherStands (s.slot p.1 p.2).len = true) : RecvStep s (s.setRcv n x) n :=
  ⟨h.kept (c := 0) ⟨fun _ => rfl, fun _ _ => rfl, rfl, id⟩ (fun _ _ => rfl) (by rw [State.setRcv_lane_same]) hshape htarget hwaits hgather,
    .of_rcv (fun _ => rfl) fun _ => rfl⟩

/-- A side with no record asks for no write and has gathered nothing (R124). -/
theorem RecvShape.rests {x : RecvSide} (h : RecvShape x) (hnone : x.target = none) :
    x.gather = [] ∧ x.mover ≠ .waiting ∧ x.mover ≠ .busy := by
  unfold RecvSide.target at hnone
  have hother := h.record.2.2
  cases hstate : x.state with
  | filling q =>
    rw [hstate] at hnone
    cases hnone
  | closing q =>
    rw [hstate] at hnone
    cases hnone
  | idle | slotWait | discarding =>
    rw [hstate] at hother
    exact hother (by simp [RecvState.code]) (by simp [RecvState.code])

/-- A side without a record takes a state without one. -/
theorem RecvShape.setState {x : RecvSide} (h : RecvShape x) (hnone : x.target = none) {st : RecvState} (h2 : st.code ≠ 2)
    (h3 : st.code ≠ 3) (timer : Option Nat) : RecvShape { x with state := st, slotWaitTimer := timer } :=
  ⟨h.buffered, h.gathered, h.asking, fun hc => absurd hc h2, fun hc => absurd hc h3, fun _ _ => h.rests hnone⟩

/-- A side takes a record with nothing gathered (R129). -/
theorem RecvShape.pick {x : RecvSide} (h : RecvShape x) (hnone : x.target = none) (q : FillRecord) :
    RecvShape { x with state := .filling q, gather := [], slotWaitTimer := none } := by
  obtain ⟨_, hwaiting, hbusy⟩ := h.rests hnone
  refine ⟨h.buffered, Nat.zero_le _, nofun, fun _ hm => ?_, nofun, fun hc => absurd rfl hc⟩
  rcases hm with hm | hm
  · exact absurd hm hwaiting
  · exact absurd hm hbusy

theorem RecvState.code_other {st : RecvState} (h2 : st.code ≠ 2) (h3 : st.code ≠ 3) (x : RecvSide) :
    ({ x with state := st } : RecvSide).target = none := by
  cases st with
  | filling q => exact absurd rfl h2
  | closing q => exact absurd rfl h3
  | idle | slotWait | discarding => rfl

/-- A side without a record takes another state without one. -/
theorem RecvHalf.setState {s : State} {n : LaneId} (h : RecvHalf s n) (hnone : (s.lane n).rcv.target = none) {st : RecvState}
    (h2 : st.code ≠ 2) (h3 : st.code ≠ 3) (timer : Option Nat)
    (hwaits : ∀ d e, st = .slotWait d e → s.serves d .inbound n = true) :
    RecvStep s (s.setRcv n { (s.lane n).rcv with state := st, slotWaitTimer := timer }) n := by
  have htarget : ({ (s.lane n).rcv with state := st, slotWaitTimer := timer } : RecvSide).target = none :=
    RecvState.code_other h2 h3 { (s.lane n).rcv with slotWaitTimer := timer }
  refine h.setRcv (h.shape.setState hnone h2 h3 timer) (htarget.trans hnone.symm) (fun d hd => ?_) (fun p hp => ?_)
  · cases st with
    | slotWait c e =>
      cases hd
      exact hwaits d e rfl
    | filling q => cases hd
    | closing q => cases hd
    | idle => cases hd
    | discarding => cases hd
  · rw [htarget] at hp
    cases hp

theorem RecvHalf.pick {s : State} {n : LaneId} {c : ChanId} {k : Nat} (h : RecvHalf s n)
    (hserves : s.serves c .inbound n = true) (hnone : (s.lane n).rcv.target = none) (hk : k < (s.chan c).count.toNat) :
    RecvStep s (s.pick n c k) n := by
  obtain ⟨_, hdir, _⟩ := (s.serves_iff ..).mp hserves
  rw [State.pick_eq]
  obtain ⟨t, ht⟩ : ∃ t : State, t = (s.setChan c { s.chan c with
      slots := (s.chan c).slots.set k ⟨.filling, 0, 0⟩
      fillPtr := (k + 1) % (s.chan c).count.toNat }).setRcv n { (s.lane n).rcv with
        state := .filling ⟨c, k, false⟩, gather := [], slotWaitTimer := none } := ⟨_, rfl⟩
  rw [← ht]
  have hchan : ∀ d, t.chan d = (s.setChan c { s.chan c with
      slots := (s.chan c).slots.set k ⟨.filling, 0, 0⟩
      fillPtr := (k + 1) % (s.chan c).count.toNat }).chan d := fun d => by rw [ht]; rfl
  have hmove : SlotMove s t c := .of_setChan hchan rfl List.length_set
    fun hptr => Nat.mod_lt _ (Nat.lt_of_le_of_lt (Nat.zero_le _) hptr)
  have hput : SlotPut s t c k ⟨.filling, 0, 0⟩ := .of_setChan hchan rfl
  refine ⟨h.put (x := { (s.lane n).rcv with state := .filling ⟨c, k, false⟩, gather := [], slotWaitTimer := none })
    hserves hmove hput ⟨Nat.zero_le _, fun hf => (by cases hf), fun hd => (by rw [hdir] at hd; cases hd), fun _ => .inr (.inl rfl)⟩
    hk (.inl hnone) (by rw [ht, State.setRcv_lane_same]) (h.shape.pick hnone _) (.inl ⟨rfl, rfl, rfl⟩) rfl,
    .of_move hmove hserves fun j => by rw [ht]; rfl⟩

/-- A route byte is routed, missed or waits (R126 to R130). -/
theorem RecvHalf.routeRecord {s : State} {n : LaneId} (h : RecvHalf s n) (hidle : (s.lane n).rcv.state = .idle) (b : Byte) :
    RecvStep s (s.routeRecord n b) n := by
  have hnone : (s.lane n).rcv.target = none := by
    unfold RecvSide.target
    rw [hidle]
  cases hrouted : s.routed n (b.extractLsb' 0 4) with
  | none =>
    rw [State.routeRecord_miss hrouted]
    obtain ⟨hhalf, hframe⟩ := h.setState hnone (st := .discarding) nofun nofun (s.lane n).rcv.slotWaitTimer nofun
    exact ⟨⟨hhalf.shape, hhalf.tracked, hhalf.filling, hhalf.record⟩, hframe.lane, hframe.own, hframe.setup, hframe.chan⟩
  | some c =>
    have hserves := (State.routed_some hrouted).1
    cases hfind : (s.chan c).findFree with
    | some k =>
      rw [State.routeRecord_pick hrouted hfind]
      exact h.pick hserves hnone (Channel.free_of_findFree hfind).1
    | none =>
      rw [State.routeRecord_wait hrouted hfind]
      refine h.setState hnone (st := .slotWait c false) nofun nofun _ fun d e hd => ?_
      cases hd
      exact hserves

/-- The gathered bytes of a record stand in their places (R132). -/
theorem RecvSide.gatherStands_iff (x : RecvSide) (len : Nat) : x.gatherStands len = true ↔
    x.gather.length ≤ len ∧ (x.state.code = 2 ∨ x.gather ≠ [] → len % 4 = x.gather.length % 4) := decide_eq_true_iff

theorem RecvSide.target_filling {x : RecvSide} {q : FillRecord} (h : x.state = .filling q ∨ x.state = .closing q) :
    x.target = some (q.chan, q.slot) := by
  unfold RecvSide.target
  rcases h with h | h <;> rw [h]

theorem RecvSide.waitsFor_filling {x : RecvSide} {q : FillRecord} (h : x.state = .filling q ∨ x.state = .closing q) :
    x.waitsFor = none := by
  unfold RecvSide.waitsFor
  rcases h with h | h <;> rw [h]

/-- The record in progress stands in a slot of a channel that the lane serves (R128). -/
theorem RecvHalf.current {s : State} {n : LaneId} (h : RecvHalf s n) {q : FillRecord}
    (hq : (s.lane n).rcv.state = .filling q ∨ (s.lane n).rcv.state = .closing q) :
    s.serves q.chan .inbound n = true ∧ (s.slot q.chan q.slot).state = .filling ∧
      (s.lane n).rcv.gatherStands (s.slot q.chan q.slot).len = true ∧ q.slot < (s.chan q.chan).count.toNat := by
  obtain ⟨hserves, hfilling, hgather⟩ := h.record.1 _ (RecvSide.target_filling hq)
  exact ⟨hserves, hfilling, hgather, (h.tracked _ hserves).lt (by
    change (s.slot q.chan q.slot).state ≠ _
    rw [hfilling]
    exact SlotState.noConfusion)⟩

/-- The side of a record with room takes a byte (R132). -/
theorem RecvShape.store {x : RecvSide} (h : RecvShape x) {q : FillRecord} (hstate : x.state = .filling q)
    (hmover : x.mover = .none) (b : Byte) : RecvShape { x with
      gather := x.gather ++ [b]
      mover := if x.gather.length + 1 = 4 then .waiting else x.mover } := by
  have hlt : x.gather.length ≠ 4 := by
    intro h4
    rcases h.asking h4 with hm | hm <;> rw [hmover] at hm <;> cases hm
  have hle := h.gathered
  have hlength : (x.gather ++ [b]).length = x.gather.length + 1 := by simp
  have hcode : x.state.code = 2 := by rw [hstate]; rfl
  refine ⟨h.buffered, by dsimp only; omega, fun h4 => ?_, fun _ hm => ?_, fun hc => ?_, fun hc => absurd hcode hc⟩
  · dsimp only at h4 ⊢
    rw [if_pos (by omega)]
    exact .inl rfl
  · dsimp only at hm ⊢
    by_cases h4 : x.gather.length + 1 = 4
    · omega
    · rw [if_neg h4, hmover] at hm
      rcases hm with hm | hm <;> cases hm
  · dsimp only at hc
    rw [hcode] at hc
    cases hc

theorem RecvHalf.storeByte {s : State} {n : LaneId} (h : RecvHalf s n) {q : FillRecord}
    (hstate : (s.lane n).rcv.state = .filling q) (hmover : (s.lane n).rcv.mover = .none) (b : Byte) :
    RecvStep s (s.storeByte n q b) n := by
  obtain ⟨hserves, hfilling, hgather, hk⟩ := h.current (.inl hstate)
  obtain ⟨_, hdir, _⟩ := (s.serves_iff ..).mp hserves
  obtain ⟨hle, hplace⟩ := (RecvSide.gatherStands_iff ..).mp hgather
  have htarget := RecvSide.target_filling (.inl hstate)
  have hwaits := RecvSide.waitsFor_filling (.inl hstate)
  by_cases hroom : (s.slot q.chan q.slot).len < (s.chan q.chan).capacity
  · rw [State.storeByte_room hroom]
    obtain ⟨r, hr⟩ : ∃ r : SlotRec, r = { s.slot q.chan q.slot with len := (s.slot q.chan q.slot).len + 1 } := ⟨_, rfl⟩
    obtain ⟨x, hx⟩ : ∃ x : RecvSide, x = { (s.lane n).rcv with
        gather := (s.lane n).rcv.gather ++ [b]
        mover := if (s.lane n).rcv.gather.length + 1 = 4 then .waiting else (s.lane n).rcv.mover } := ⟨_, rfl⟩
    rw [← hr, ← hx]
    have hrstate : r.state = .filling := by rw [hr]; exact hfilling
    have hmove : SlotMove s ((s.setSlot q.chan q.slot r).setRcv n x) q.chan :=
      .of_setChan (ch := { s.chan q.chan with slots := (s.chan q.chan).slots.set q.slot r }) (fun _ => rfl) rfl
        List.length_set id
    have hput : SlotPut s ((s.setSlot q.chan q.slot r).setRcv n x) q.chan q.slot r :=
      .of_setChan (ch := { s.chan q.chan with slots := (s.chan q.chan).slots.set q.slot r }) (fun _ => rfl) rfl
    refine ⟨h.put (x := x) hserves hmove hput ⟨?_, ?_, ?_, ?_⟩ hk (.inr htarget) (State.setRcv_lane_same ..▸ rfl) ?_
      (.inl ⟨hrstate, ?_, ?_⟩) ?_, .of_move hmove hserves fun _ => rfl⟩
    · rw [hr]
      exact hroom
    · rw [hrstate]
      exact nofun
    · rw [hdir]
      exact nofun
    · exact fun _ => .inr (.inl hrstate)
    · rw [hx]
      exact h.shape.store hstate hmover b
    · rw [hx]
      exact htarget
    · rw [RecvSide.gatherStands_iff, hx, hr]
      have hmod := hplace (.inl (by rw [hstate]; rfl))
      have hlength : ((s.lane n).rcv.gather ++ [b]).length = (s.lane n).rcv.gather.length + 1 := by simp
      dsimp only
      rw [hlength]
      exact ⟨by omega, fun _ => by omega⟩
    · rw [hx]
      exact hwaits
  · rw [State.storeByte_full (Nat.le_of_not_lt hroom)]
    have hshape := h.shape.record
    refine h.setRcv ⟨h.shape.buffered, h.shape.gathered, h.shape.asking, ?_⟩ ?_ ?_ ?_
    · exact ⟨fun _ => hshape.1 (by rw [hstate]; rfl), nofun, fun hc => absurd rfl hc⟩
    · rw [htarget]
      rfl
    · exact nofun
    · intro p hp
      cases hp
      rw [RecvSide.gatherStands_iff]
      exact ⟨hle, fun _ => hplace (.inl (by rw [hstate]; rfl))⟩

/-- The last flag of an entry (R125, R135). -/
theorem RecvHalf.afterLast {s : State} {n : LaneId} (h : RecvHalf s n) (last : Bool) : RecvStep s (s.afterLast n last) n := by
  have hset := State.afterLast_setRcv s n (s.lane n).rcv last
  rw [State.setRcv_rcv] at hset
  rw [hset]
  cases hstate : (s.lane n).rcv.state with
  | filling q =>
    obtain ⟨_, _, hgather, _⟩ := h.current (.inl hstate)
    obtain ⟨hle, hplace⟩ := (RecvSide.gatherStands_iff ..).mp hgather
    rw [RecvSide.afterLast_filling hstate]
    have hcode : (s.lane n).rcv.state.code = 2 := by rw [hstate]; rfl
    have hlen := hplace (.inl hcode)
    have hmover : ∀ m, (s.lane n).rcv.mover = m → m ≠ .none →
        (if last = true ∧ (s.lane n).rcv.mover = .none then Mover.waiting else (s.lane n).rcv.mover) = m := by
      intro m hm hne
      rw [if_neg (fun hl => hne (hm.symm.trans hl.2)), hm]
    refine h.setRcv ⟨h.shape.buffered, h.shape.gathered, fun h4 => ?_, fun hc => ?_, fun hc => ?_, fun h2 h3 => ?_⟩ ?_ ?_ ?_
    · rcases h.shape.asking h4 with hm | hm
      · exact .inl (hmover _ hm nofun)
      · exact .inr (hmover _ hm nofun)
    · cases last with
      | true => cases hc
      | false => exact fun hm => h.shape.record.1 hcode hm
    · cases last with
      | false => cases hc
      | true =>
        dsimp only
        split
        · exact nofun
        · rename_i hne
          exact fun hm => hne ⟨rfl, hm⟩
    · cases last with
      | true => exact absurd rfl h3
      | false => exact absurd rfl h2
    · rw [RecvSide.target_filling (.inl hstate)]
      cases last <;> rfl
    · cases last <;> exact nofun
    · intro p hp
      have hpq : p = (q.chan, q.slot) := by cases last <;> cases hp <;> rfl
      rw [hpq, RecvSide.gatherStands_iff]
      exact ⟨hle, fun _ => hlen⟩
  | slotWait c ended =>
    have hnone : (s.lane n).rcv.target = none := by
      unfold RecvSide.target
      rw [hstate]
    have hwaits := h.record.2 c (by unfold RecvSide.waitsFor; rw [hstate]; rfl)
    have hlast : ∃ e, (s.lane n).rcv.afterLast last = { (s.lane n).rcv with state := .slotWait c e } := by
      unfold RecvSide.afterLast RecvSide.endRecord
      cases last with
      | true =>
        refine ⟨true, ?_⟩
        simp only [if_true]
        rw [hstate]
      | false =>
        refine ⟨ended, ?_⟩
        rw [← hstate]
        rfl
    obtain ⟨e, he⟩ := hlast
    rw [he]
    refine h.setState hnone (st := .slotWait c e) nofun nofun _ fun d e' hd => ?_
    cases hd
    exact hwaits
  | discarding =>
    have hnone : (s.lane n).rcv.target = none := by
      unfold RecvSide.target
      rw [hstate]
    rw [RecvSide.afterLast_discarding hstate]
    cases last with
    | true => exact h.setState hnone (st := .idle) nofun nofun _ nofun
    | false => exact h.setState hnone (st := .discarding) nofun nofun _ nofun
  | closing q =>
    have hsame : (s.lane n).rcv.afterLast last = (s.lane n).rcv := by
      unfold RecvSide.afterLast RecvSide.endRecord
      cases last
      · rfl
      · simp only [if_true]
        rw [hstate]
    rw [hsame, State.setRcv_rcv]
    exact ⟨h, .refl s n⟩
  | idle =>
    have hsame : (s.lane n).rcv.afterLast last = (s.lane n).rcv := by
      unfold RecvSide.afterLast RecvSide.endRecord
      cases last
      · rfl
      · simp only [if_true]
        rw [hstate]
    rw [hsame, State.setRcv_rcv]
    exact ⟨h, .refl s n⟩

/-- A record that is given up leaves its side with nothing asked for. -/
theorem RecvShape.dropped {x : RecvSide} (h : RecvShape x) {m : Mover} (hw : m ≠ .waiting) (hb : m ≠ .busy) {st : RecvState}
    (h2 : st.code ≠ 2) (h3 : st.code ≠ 3) : RecvShape { x with gather := [], mover := m, state := st } :=
  ⟨h.buffered, Nat.zero_le _, nofun, fun hc => absurd hc h2, fun hc => absurd hc h3, fun _ _ => ⟨rfl, hw, hb⟩⟩

/-- A record is given up and its slot is FREE, whatever the mover then is that asks for nothing (R138, R139). -/
theorem RecvHalf.givenUp {s t : State} {n : LaneId} (h : RecvHalf s n) {q : FillRecord}
    (hq : (s.lane n).rcv.state = .filling q ∨ (s.lane n).rcv.state = .closing q) {m : Mover} (hw : m ≠ .waiting) (hb : m ≠ .busy)
    {after : RecvState} (hafter : after = .idle ∨ after = .discarding)
    (hchan : ∀ d, t.chan d = (s.setChan q.chan { s.chan q.chan with
      slots := (s.chan q.chan).slots.set q.slot ⟨.free, 0, 0⟩, faults := (s.chan q.chan).faults + 1 }).chan d)
    (hlane : ∀ k, t.lane k = (s.setRcv n { (s.lane n).rcv with gather := [], mover := m, state := after }).lane k) :
    RecvStep s t n := by
  obtain ⟨hserves, _, _, hk⟩ := h.current hq
  obtain ⟨x, hx⟩ : ∃ x : RecvSide, x = { (s.lane n).rcv with gather := [], mover := m, state := after } := ⟨_, rfl⟩
  rw [← hx] at hlane
  have hmove : SlotMove s t q.chan := .of_setChan hchan rfl List.length_set id
  have hput : SlotPut s t q.chan q.slot ⟨.free, 0, 0⟩ := .of_setChan hchan rfl
  refine ⟨h.put (x := x) hserves hmove hput ⟨Nat.zero_le _, fun _ => rfl, fun _ => .inl rfl, fun _ => .inl rfl⟩ hk
    (.inr (RecvSide.target_filling hq)) (by rw [hlane, State.setRcv_lane_same]) ?_ (.inr ⟨nofun, ?_⟩) ?_,
    .of_move hmove hserves hlane⟩
  · rw [hx]
    refine h.shape.dropped hw hb ?_ ?_
    · rcases hafter with rfl | rfl <;> exact nofun
    · rcases hafter with rfl | rfl <;> exact nofun
  · rw [hx]
    rcases hafter with rfl | rfl <;> rfl
  · rw [hx]
    rcases hafter with rfl | rfl <;> rfl

/-- A record is dropped, and its slot is FREE (R138). -/
theorem RecvHalf.dropped {s : State} {n : LaneId} (h : RecvHalf s n) {q : FillRecord}
    (hq : (s.lane n).rcv.state = .filling q ∨ (s.lane n).rcv.state = .closing q) (detail : BitVec 16) {after : RecvState}
    (hafter : after = .idle ∨ after = .discarding) : RecvStep s (s.dropped n q detail after) n := by
  refine h.givenUp hq (m := if (s.lane n).rcv.mover = .busy ∨ (s.lane n).rcv.mover = .orphaned then .orphaned else .none) ?_ ?_
    hafter (fun _ => rfl) fun _ => rfl
  · split <;> exact nofun
  · split <;> exact nofun

/-- A waiting record is dropped (R131, R137). -/
theorem RecvHalf.dropWaiting {s : State} {n : LaneId} (h : RecvHalf s n) {c : ChanId} {ended : Bool}
    (hstate : (s.lane n).rcv.state = .slotWait c ended) (detail : BitVec 16) {after : RecvState}
    (hafter : after = .idle ∨ after = .discarding) : RecvStep s (s.dropWaiting n c detail after) n := by
  have hnone : (s.lane n).rcv.target = none := by
    unfold RecvSide.target
    rw [hstate]
  have hserves := h.record.2 c (by unfold RecvSide.waitsFor; rw [hstate]; rfl)
  obtain ⟨x, hx⟩ : ∃ x : RecvSide, x = { (s.lane n).rcv with slotWaitTimer := none, state := after } := ⟨_, rfl⟩
  have hlane : ∀ k, (s.dropWaiting n c detail after).lane k = (s.setRcv n x).lane k := fun k => by
    rw [State.dropWaiting_eq, hx]
    rfl
  have hchan : ∀ d, (s.dropWaiting n c detail after).chan d =
      (s.setChan c { s.chan c with faults := (s.chan c).faults + 1 }).chan d := fun d => by
    rw [State.dropWaiting_eq]
    rfl
  have hmove : SlotMove s (s.dropWaiting n c detail after) c := .of_setChan hchan rfl rfl id
  have htarget : x.target = none ∧ x.waitsFor = none := by
    rw [hx]
    rcases hafter with rfl | rfl <;> exact ⟨rfl, rfl⟩
  refine ⟨h.kept (x := x) hmove (slots_kept_of_setChan hchan rfl) (by rw [hlane, State.setRcv_lane_same]) ?_
    (htarget.1.trans hnone.symm) (fun d hd => ?_) (fun p hp => ?_), .of_move hmove hserves hlane⟩
  · rw [hx]
    rcases hafter with rfl | rfl
    · exact h.shape.setState hnone (st := .idle) nofun nofun none
    · exact h.shape.setState hnone (st := .discarding) nofun nofun none
  · rw [htarget.2] at hd
    cases hd
  · rw [htarget.1] at hp
    cases hp

/-- An end mark (R137). -/
theorem RecvHalf.takeMark {s : State} {n : LaneId} (h : RecvHalf s n) (m : EndMark) : RecvStep s (s.takeMark n m) n := by
  cases hstate : (s.lane n).rcv.state with
  | filling q =>
    rw [State.takeMark_filling hstate]
    exact h.dropped (.inl hstate) _ (.inl rfl)
  | slotWait c ended =>
    cases ended with
    | true =>
      rw [State.takeMark_ignored (.inl ⟨c, hstate⟩)]
      exact ⟨h, .refl s n⟩
    | false =>
      rw [State.takeMark_slotWait hstate]
      exact h.dropWaiting hstate _ (.inl rfl)
  | discarding =>
    rw [State.takeMark_discarding hstate]
    exact h.setState (by unfold RecvSide.target; rw [hstate]) (st := .idle) nofun nofun _ nofun
  | closing q =>
    rw [State.takeMark_ignored (.inr (.inl ⟨q, hstate⟩))]
    exact ⟨h, .refl s n⟩
  | idle =>
    rw [State.takeMark_ignored (.inr (.inr hstate))]
    exact ⟨h, .refl s n⟩

/-- What concerns the engine's side of a lane alone leaves the record as it is. -/
theorem RecvHalf.setPut {s : State} {n : LaneId} (h : RecvHalf s n) {x : RecvSide} (hrx : x.rx.length ≤ 16)
    (hx : (s.lane n).rcv = { x with
      putState := (s.lane n).rcv.putState
      rx := (s.lane n).rcv.rx
      byteTimer := (s.lane n).rcv.byteTimer
      markPulse := (s.lane n).rcv.markPulse }) : RecvStep s (s.setRcv n x) n := by
  have hstate : (s.lane n).rcv.state = x.state := by rw [hx]
  have hgather : (s.lane n).rcv.gather = x.gather := by rw [hx]
  have hmover : (s.lane n).rcv.mover = x.mover := by rw [hx]
  obtain ⟨_, hgathered, hasking, hrecord⟩ := h.shape
  have htarget : x.target = (s.lane n).rcv.target := by
    unfold RecvSide.target
    rw [hstate]
  have hwaits : x.waitsFor = (s.lane n).rcv.waitsFor := by
    unfold RecvSide.waitsFor
    rw [hstate]
  unfold RecvRecordLaw at hrecord
  rw [hgather] at hgathered hasking hrecord
  rw [hmover] at hasking hrecord
  rw [hstate] at hrecord
  refine h.setRcv ⟨hrx, hgathered, hasking, hrecord⟩ htarget (fun d hd => h.record.2 d (hwaits ▸ hd)) fun p hp => ?_
  have hstands := (h.record.1 p (htarget ▸ hp)).2.2
  rw [RecvSide.gatherStands_iff, hgather, hstate] at hstands
  rwa [RecvSide.gatherStands_iff]

/-- The head entry leaves the buffer (R125). -/
theorem RecvHalf.popRx {s : State} {n : LaneId} (h : RecvHalf s n) {e : RxEntry} {rest : List RxEntry}
    (hrx : (s.lane n).rcv.rx = e :: rest) : RecvStep s (s.popRx n rest) n := by
  have hle := h.shape.buffered
  rw [hrx, List.length_cons] at hle
  exact h.setPut (x := { (s.lane n).rcv with rx := rest, byteTimer := _ }) (Nat.le_of_succ_le hle) rfl

/-- A consumed entry, on a side that consumes (R125). -/
theorem RecvHalf.consumeEntry {s : State} {n : LaneId} (h : RecvHalf s n) (hconsumes : (s.lane n).rcv.consumes = true)
    (e : RxEntry) : RecvStep s (s.consumeEntry n e) n := by
  obtain ⟨b, last, mark⟩ := e
  have hbare : RecvStep s (s.consumeEntry n ⟨b, last, none⟩) n := by
    unfold RecvSide.consumes at hconsumes
    cases hstate : (s.lane n).rcv.state with
    | idle =>
      rw [State.consumeEntry_idle hstate]
      have hstep := h.routeRecord hstate b
      exact hstep.trans (hstep.1.afterLast last)
    | filling q =>
      rw [hstate] at hconsumes
      rw [State.consumeEntry_filling hstate]
      have hstep := h.storeByte hstate (eq_of_beq hconsumes) b
      exact hstep.trans (hstep.1.afterLast last)
    | discarding =>
      rw [State.consumeEntry_discarding hstate]
      exact h.afterLast last
    | slotWait c ended =>
      rw [hstate] at hconsumes
      cases hconsumes
    | closing q =>
      rw [hstate] at hconsumes
      cases hconsumes
  cases mark with
  | none => exact hbare
  | some m =>
    rw [State.consumeEntry_mark]
    exact hbare.trans (hbare.1.takeMark m)

/-- The side consumes all it can, and then rests (R125). -/
theorem RecvHalf.drain {s : State} {n : LaneId} (h : RecvHalf s n) : RecvStep s (s.drain n) n ∧
    (((s.drain n).lane n).rcv.consumes = true → ((s.drain n).lane n).rcv.rx = []) := by
  obtain ⟨l, hl⟩ : ∃ l : List RxEntry, l = (s.lane n).rcv.rx := ⟨_, rfl⟩
  induction l generalizing s with
  | nil =>
    rw [State.drain_rests (.inr hl.symm)]
    exact ⟨⟨h, .refl s n⟩, fun _ => hl.symm⟩
  | cons e rest ih =>
    by_cases hconsumes : (s.lane n).rcv.consumes = true
    · rw [State.drain_cons hconsumes hl.symm]
      have hpop := h.popRx hl.symm
      have hstep := hpop.trans (hpop.1.consumeEntry (by rw [State.popRx_lane]; exact hconsumes) e)
      obtain ⟨hdrain, hrest⟩ := ih hstep.1 (by rw [State.consumeEntry_rx, State.popRx_lane])
      exact ⟨hstep.trans hdrain, hrest⟩
    · rw [State.drain_rests (.inl (Bool.eq_false_iff.mpr hconsumes))]
      exact ⟨⟨h, .refl s n⟩, fun hc => absurd hc hconsumes⟩

end Sys2Proof.Machine
end

section
/-! SUPPORT. The stop of channels (R27, R48 to R50, R121, R142). -/

namespace Sys2Proof.Machine

/-! ### The receive halves under the laws -/

/-- The laws give each lane's receive half. -/
theorem Inv.recvHalf {s : State} (h : Inv s) (n : LaneId) : RecvHalf s n := by
  obtain ⟨_, _, _, hrx, hgather, hasking⟩ := h.buffers n
  have htracked : ∀ c, s.serves c .inbound n = true → (s.chan c).Tracked := fun c hc =>
    (Channel.tracked_iff _).mpr ((h.tracker c).2 ((s.serves_iff ..).mp hc).1)
  refine ⟨⟨hrx, hgather, hasking, (h.records n).2⟩, htracked, fun c hc k hk => ?_, h.fills.2 n⟩
  exact h.fills.1 c n hc k ((htracked c hc).lt (by
    change (s.slot c k).state ≠ _
    rw [hk]
    exact SlotState.noConfusion)) hk

/-- A receive half depends on its side and on the channels that it serves. -/
theorem RecvHalf.congr {s t : State} {n : LaneId} (h : RecvHalf s n) (hrcv : (t.lane n).rcv = (s.lane n).rcv)
    (hserves : ∀ c, t.serves c .inbound n = s.serves c .inbound n)
    (hchan : ∀ c, s.serves c .inbound n = true → t.chan c = s.chan c) : RecvHalf t n := by
  have hslot : ∀ c, s.serves c .inbound n = true → ∀ k, t.slot c k = s.slot c k := fun c hc k => by
    unfold State.slot
    rw [hchan c hc]
  refine ⟨hrcv ▸ h.shape, fun c hc => ?_, fun c hc k hk => ?_, fun p hp => ?_, fun c hc => ?_⟩
  · rw [hserves] at hc
    rw [hchan c hc]
    exact h.tracked c hc
  · rw [hserves] at hc
    rw [hslot c hc] at hk
    rw [hrcv]
    exact h.filling c hc k hk
  · rw [hrcv] at hp
    obtain ⟨hp1, hp2, hp3⟩ := h.record.1 p hp
    rw [hserves, hslot p.1 hp1, hrcv]
    exact ⟨hp1, hp2, hp3⟩
  · rw [hrcv] at hc
    rw [hserves]
    exact h.record.2 c hc

/-! ### The stopped records (R48) -/

/-- Channels of a list that are stopped, at this one grant (R48). -/
theorem foldl_stopRecords (sel : ChanId → Bool) (l : List ChanId) (s : State) :
    (∀ d, (l.foldl (State.stopRecords sel) s).chan d = if d ∈ l ∧ sel d = true then (s.chan d).stop else s.chan d) ∧
    l.foldl (State.stopRecords sel) s = { s with chans := (l.foldl (State.stopRecords sel) s).chans } := by
  induction l generalizing s with
  | nil => exact ⟨fun d => by rw [if_neg (fun h => by cases h.1)]; rfl, rfl⟩
  | cons c l ih =>
    have hchan : ∀ d, (s.stopRecords sel c).chan d = if c = d ∧ sel c = true then (s.chan c).stop else s.chan d := by
      intro d
      unfold State.stopRecords
      by_cases hsel : sel c = true
      · rw [if_pos hsel, State.chan_setChan]
        simp only [hsel, and_true]
      · rw [if_neg hsel, if_neg fun h => hsel h.2]
    have hframe : s.stopRecords sel c = { s with chans := (s.stopRecords sel c).chans } := by
      unfold State.stopRecords
      split
      · rfl
      · rfl
    obtain ⟨hchans, hrest⟩ := ih (s.stopRecords sel c)
    rw [List.foldl_cons]
    refine ⟨fun d => ?_, ?_⟩
    · rw [hchans d, hchan d]
      have hstop : ∀ ch : Channel, ch.stop.stop = ch.stop := fun _ => rfl
      by_cases hcd : c = d
      · subst hcd
        by_cases hsel : sel c = true
        · simp only [hsel, and_true, if_true, List.mem_cons_self, hstop, ite_self]
        · rw [if_neg (fun h => hsel h.2), if_neg (fun h => hsel h.2), if_neg (fun h => hsel h.2)]
      · have hne : ¬(c = d ∧ sel c = true) := fun h => hcd h.1
        rw [if_neg hne]
        simp only [List.mem_cons, Ne.symm hcd, false_or]
    · rw [hrest, hframe]

/-- The channels of s once those of `sel` are stopped. -/
def State.stopped (s : State) (sel : ChanId → Bool) : State := allChans.foldl (State.stopRecords sel) s

theorem State.stopped_chan (s : State) (sel : ChanId → Bool) (d : ChanId) :
    (s.stopped sel).chan d = if sel d = true then (s.chan d).stop else s.chan d := by
  refine ((foldl_stopRecords sel allChans s).1 d).trans ?_
  simp only [mem_allChans, true_and]

theorem State.stopped_eq (s : State) (sel : ChanId → Bool) : s.stopped sel = { s with chans := (s.stopped sel).chans } :=
  (foldl_stopRecords sel allChans s).2

theorem State.stopped_lane (s : State) (sel : ChanId → Bool) (n : LaneId) : (s.stopped sel).lane n = s.lane n := by
  rw [State.stopped_eq]
  rfl

theorem State.stopped_now (s : State) (sel : ChanId → Bool) : (s.stopped sel).now = s.now := by rw [State.stopped_eq]

/-- A stopped channel serves no lane (R48). -/
theorem State.stopped_serves (s : State) (sel : ChanId → Bool) (c : ChanId) (d : Direction) (n : LaneId) :
    (s.stopped sel).serves c d n = (s.serves c d n && !sel c) := by
  unfold State.serves
  rw [State.stopped_chan]
  cases sel c with
  | true => rw [if_pos rfl, Bool.not_true, Bool.and_false]; rfl
  | false => rw [if_neg Bool.false_ne_true, Bool.not_false, Bool.and_true]

/-- The stop of the channels `sel` (R48 to R50): every record, then every lane. -/
theorem State.stopChannels_eq {s : State} {sel run : ChanId → Bool} (hrun : ∀ c, run c = (sel c && (s.chan c).running)) :
    s.stopChannels sel = allLanes.foldl (State.stopLane run) (s.stopped run) := by
  rw [show run = fun c => sel c && (s.chan c).running from funext hrun]
  rfl

/-! ### A side that the stop does not concern -/

theorem SendSide.stopFor_kept {x : SendSide} {sel : ChanId → Bool} (hqueue : ∀ e ∈ x.queue, sel e.chan = false)
    (hcur : ∀ q ∈ x.cur, sel q.chan = false) (now : Nat) : x.stopFor sel now = x := by
  have hkeep : (x.queue.filter fun e => !sel e.chan) = x.queue :=
    List.filter_eq_self.mpr fun e he => by rw [hqueue e he]; rfl
  unfold SendSide.stopFor
  dsimp only
  rw [hkeep]
  split
  · rename_i q hq
    rw [if_neg (by rw [hcur q hq]; exact Bool.false_ne_true)]
  · rfl

/-- The record that a stop gives up, or keeps (R50, R142). -/
theorem RecvSide.stopFor_cases (x : RecvSide) (sel : ChanId → Bool) :
    (x.stopFor sel = x ∧ (∀ p ∈ x.target, sel p.1 = false) ∧ ∀ c ∈ x.waitsFor, sel c = false) ∨
    ((x.stopFor sel).target = none ∧ (x.stopFor sel).waitsFor = none ∧ (∀ p ∈ x.target, sel p.1 = true) ∧
      (RecvShape x → RecvShape (x.stopFor sel)) ∧
      ((x.stopFor sel).state = .idle ∨ (x.stopFor sel).state = .discarding)) := by
  have hend : x.mover.endRecord ≠ .waiting ∧ x.mover.endRecord ≠ .busy := by
    cases x.mover <;> exact ⟨nofun, nofun⟩
  unfold RecvSide.stopFor RecvSide.target RecvSide.waitsFor
  cases hstate : x.state with
  | idle => exact .inl ⟨rfl, nofun, nofun⟩
  | discarding => exact .inl ⟨rfl, nofun, nofun⟩
  | filling q =>
    dsimp only
    cases hsel : sel q.chan with
    | false => exact .inl ⟨rfl, fun p hp => by cases hp; exact hsel, nofun⟩
    | true =>
      exact .inr ⟨rfl, rfl, fun p hp => by cases hp; exact hsel, fun h => h.dropped hend.1 hend.2 nofun nofun, .inr rfl⟩
  | closing q =>
    dsimp only
    cases hsel : sel q.chan with
    | false => exact .inl ⟨rfl, fun p hp => by cases hp; exact hsel, nofun⟩
    | true =>
      exact .inr ⟨rfl, rfl, fun p hp => by cases hp; exact hsel, fun h => h.dropped hend.1 hend.2 nofun nofun, .inl rfl⟩
  | slotWait c ended =>
    dsimp only
    cases hsel : sel c with
    | false => exact .inl ⟨rfl, nofun, fun d hd => by cases hd; exact hsel⟩
    | true =>
      have hnone : x.target = none := by
        unfold RecvSide.target
        rw [hstate]
      rw [if_pos rfl]
      cases ended with
      | true => exact .inr ⟨rfl, rfl, nofun, fun h => h.setState hnone (st := .idle) nofun nofun none, .inl rfl⟩
      | false => exact .inr ⟨rfl, rfl, nofun, fun h => h.setState hnone (st := .discarding) nofun nofun none, .inr rfl⟩

/-- A receive half at the stop of its channels, before it consumes on (R50, R142). -/
theorem RecvHalf.stopped {s v : State} {n : LaneId} {sel : ChanId → Bool} (h : RecvHalf s n)
    (hserves : ∀ c, v.serves c .inbound n = (s.serves c .inbound n && !sel c))
    (hchan : ∀ c, v.serves c .inbound n = true → v.chan c = s.chan c)
    (hrcv : (v.lane n).rcv = (s.lane n).rcv.stopFor sel) : RecvHalf v n := by
  have hserved : ∀ c, v.serves c .inbound n = true ↔ s.serves c .inbound n = true ∧ sel c = false := fun c => by
    rw [hserves, Bool.and_eq_true, Bool.not_eq_true']
  have hslot : ∀ c, v.serves c .inbound n = true → ∀ k, v.slot c k = s.slot c k := fun c hc k => by
    unfold State.slot
    rw [hchan c hc]
  have htracked : ∀ c, v.serves c .inbound n = true → (v.chan c).Tracked := fun c hc => by
    rw [hchan c hc]
    exact h.tracked c ((hserved c).mp hc).1
  rcases (s.lane n).rcv.stopFor_cases sel with ⟨hsame, htarget, hwaits⟩ | ⟨htarget, hwaits, hold, hshape, _⟩
  · rw [hsame] at hrcv
    refine ⟨hrcv ▸ h.shape, htracked, fun c hc k hk => ?_, fun p hp => ?_, fun c hc => ?_⟩
    · rw [hslot c hc] at hk
      rw [hrcv]
      exact h.filling c ((hserved c).mp hc).1 k hk
    · rw [hrcv] at hp
      obtain ⟨hp1, hp2, hp3⟩ := h.record.1 p hp
      have hp' := (hserved p.1).mpr ⟨hp1, htarget p hp⟩
      rw [hslot p.1 hp', hrcv]
      exact ⟨hp', hp2, hp3⟩
    · rw [hrcv] at hc
      exact (hserved c).mpr ⟨h.record.2 c hc, hwaits c hc⟩
  · refine ⟨hrcv ▸ hshape h.shape, htracked, fun c hc k hk => ?_, fun p hp => ?_, fun c hc => ?_⟩
    · rw [hslot c hc] at hk
      obtain ⟨hs, hkept⟩ := (hserved c).mp hc
      rw [hold _ (h.filling c hs k hk)] at hkept
      cases hkept
    · rw [hrcv, htarget] at hp
      cases hp
    · rw [hrcv, hwaits] at hc
      cases hc

/-! ### The stop of one channel (R48 to R50) -/

/-- A pass over the lanes that acts on lane n alone. -/
theorem foldl_single {f : State → LaneId → State} (n : LaneId) {s : State} (hid : ∀ k, k ≠ n → f s k = s)
    (hid' : ∀ k, k ≠ n → f (f s n) k = f s n) : allLanes.foldl f s = f s n := by
  unfold allLanes
  simp only [List.foldl_cons, List.foldl_nil]
  match n with
  | 0 => rw [hid' 1 (by decide), hid' 2 (by decide), hid' 3 (by decide)]
  | 1 => rw [hid 0 (by decide), hid' 2 (by decide), hid' 3 (by decide)]
  | 2 => rw [hid 0 (by decide), hid 1 (by decide), hid' 3 (by decide)]
  | 3 => rw [hid 0 (by decide), hid 1 (by decide), hid 2 (by decide)]

/-- A lane that the stop does not concern stays as it is. -/
theorem State.stopLane_kept {s u : State} {sel : ChanId → Bool} {k : LaneId} (hlane : u.lane k = s.lane k)
    (hsnd : (s.lane k).snd.stopFor sel u.now = (s.lane k).snd) (hrcv : (s.lane k).rcv.stopFor sel = (s.lane k).rcv)
    (hrest : (s.lane k).rcv.consumes = true → (s.lane k).rcv.rx = []) : u.stopLane sel k = u := by
  unfold State.stopLane
  dsimp only
  rw [hlane, hsnd, hrcv, ← hlane, State.setLane_lane]
  refine State.drain_rests ?_
  rw [hlane]
  cases hc : (s.lane k).rcv.consumes with
  | true => exact .inr (hrest hc)
  | false => exact .inl rfl

/-- At a host's grant no mover has a cycle in progress (R146, R150). -/
theorem State.endRecord_free {s : State} (hport : PortLaw s) (hfree : s.arb.port = none) (n : LaneId) :
    (s.lane n).snd.mover.endRecord = .none ∧ (s.lane n).rcv.mover.endRecord = .none := by
  have howner : s.portOwner = none := by
    unfold State.portOwner
    rw [hfree]
    rfl
  obtain ⟨hsnd, hrcv⟩ := hport.2.2 n
  rw [howner] at hsnd hrcv
  rw [Mover.endRecord_eq, Mover.endRecord_eq]
  exact ⟨if_neg (fun h => nomatch hsnd.mpr h), if_neg (fun h => nomatch hrcv.mpr h)⟩

/-- The entries of a lane's queue and its current record are of channels that it serves (R112). -/
theorem Inv.snd_stopFor {s : State} (h : Inv s) {sel : ChanId → Bool} {n : LaneId}
    (hsel : ∀ c, s.serves c .outbound n = true → sel c = false) (now : Nat) :
    (s.lane n).snd.stopFor sel now = (s.lane n).snd :=
  SendSide.stopFor_kept (fun e he => hsel _ ((h.sends.2 n).1 e he).1) (fun q hq => hsel _ ((h.sends.2 n).2 q hq).1) now

/-- The record of a lane's receive side is of a channel that it serves (R128). -/
theorem Inv.rcv_stopFor {s : State} (h : Inv s) {sel : ChanId → Bool} {n : LaneId}
    (hsel : ∀ c, s.serves c .inbound n = true → sel c = false) : (s.lane n).rcv.stopFor sel = (s.lane n).rcv := by
  obtain ⟨htarget, hwaits⟩ := h.fills.2 n
  unfold RecvSide.stopFor
  cases hstate : (s.lane n).rcv.state with
  | idle => rfl
  | discarding => rfl
  | filling q =>
    dsimp only
    rw [if_neg]
    rw [hsel _ (htarget _ (RecvSide.target_filling (.inl hstate))).1]
    exact Bool.false_ne_true
  | closing q =>
    dsimp only
    rw [if_neg]
    rw [hsel _ (htarget _ (RecvSide.target_filling (.inr hstate))).1]
    exact Bool.false_ne_true
  | slotWait c ended =>
    dsimp only
    rw [if_neg]
    rw [hsel _ (hwaits c (by unfold RecvSide.waitsFor; rw [hstate]; rfl))]
    exact Bool.false_ne_true

/-- The record of channel c as its stop leaves it, with its GUARD as given (R41, R48). -/
def Channel.off (ch : Channel) (guard : BitVec 2) : Channel := { ch with state := .off, slots := [], guard := guard }

/-- Lane n of s once channel c is OFF, before its receive side consumes on (R48 to R50). -/
def State.laneStopped (s : State) (c : ChanId) (guard : BitVec 2) (n : LaneId) : State :=
  (s.setChan c ((s.chan c).off guard)).setLane n { s.lane n with
    snd := (s.lane n).snd.stopFor (fun d => d == c) s.now
    rcv := (s.lane n).rcv.stopFor fun d => d == c }

theorem State.laneStopped_chan (s : State) (c : ChanId) (guard : BitVec 2) (n : LaneId) (d : ChanId) :
    (s.laneStopped c guard n).chan d = if c = d then (s.chan c).off guard else s.chan d := State.chan_setChan ..

theorem State.laneStopped_lane (s : State) (c : ChanId) (guard : BitVec 2) (n : LaneId) :
    (s.laneStopped c guard n).lane n = { s.lane n with
      snd := (s.lane n).snd.stopFor (fun d => d == c) s.now
      rcv := (s.lane n).rcv.stopFor fun d => d == c } := State.lane_setLane_same ..

/-- The receive half of a stopped channel's lane stands before the side consumes on (R50, R142). -/
theorem Inv.recvHalf_laneStopped {s : State} (h : Inv s) (c : ChanId) (guard : BitVec 2) (n : LaneId) :
    RecvHalf (s.laneStopped c guard n) n := by
  have hserves : ∀ d, (s.laneStopped c guard n).serves d .inbound n = (s.serves d .inbound n && !(d == c)) := by
    intro d
    unfold State.serves
    rw [State.laneStopped_chan]
    by_cases hd : c = d
    · rw [if_pos hd, hd, beq_self_eq_true, Bool.not_true, Bool.and_false]
      rfl
    · rw [if_neg hd, beq_eq_false_iff_ne.mpr (Ne.symm hd), Bool.not_false, Bool.and_true]
  refine (h.recvHalf n).stopped hserves (fun d hd => ?_) (by rw [State.laneStopped_lane])
  rw [hserves, Bool.and_eq_true, Bool.not_eq_true', beq_eq_false_iff_ne] at hd
  rw [State.laneStopped_chan, if_neg (Ne.symm hd.2)]

/-- The stop of a RUNNING channel is the stop on its own lane (R48 to R50). -/
theorem State.stopChannel_eq {s : State} (hinv : Inv s) {c : ChanId} (hrun : (s.chan c).state = .running) :
    (s.stopChannels fun d => d == c) = (s.laneStopped c (s.chan c).guard (s.chan c).lane).drain (s.chan c).lane := by
  have hsel : ∀ d : ChanId, (d == c) = ((d == c) && (s.chan d).running) := by
    intro d
    by_cases hd : d = c
    · rw [hd, (Channel.running_iff _).mpr hrun, Bool.and_true]
    · rw [beq_eq_false_iff_ne.mpr hd, Bool.false_and]
  have hstopped : (s.stopped fun d => d == c) = s.setChan c ((s.chan c).off (s.chan c).guard) := by
    refine State.ext_chans (s := s) (State.stopped_eq ..) rfl fun d => ?_
    rw [State.stopped_chan, State.chan_setChan]
    by_cases hd : c = d
    · rw [if_pos (beq_iff_eq.mpr hd.symm), if_pos hd, hd]
      rfl
    · rw [if_neg (fun h => hd (beq_iff_eq.mp h).symm), if_neg hd]
  have hother : ∀ k, k ≠ (s.chan c).lane → ∀ d dir, s.serves d dir k = true → (d == c) = false := by
    intro k hk d dir hd
    rw [beq_eq_false_iff_ne]
    rintro rfl
    exact hk ((s.serves_iff ..).mp hd).2.2.symm
  have hkept : ∀ (u : State) k, k ≠ (s.chan c).lane → u.lane k = s.lane k → u.stopLane (fun d => d == c) k = u :=
    fun u k hk hu => State.stopLane_kept hu (hinv.snd_stopFor (fun d => hother k hk d _) _)
      (hinv.rcv_stopFor fun d => hother k hk d _) (hinv.rests k)
  have hown : (s.setChan c ((s.chan c).off (s.chan c).guard)).stopLane (fun d => d == c) (s.chan c).lane =
      (s.laneStopped c (s.chan c).guard (s.chan c).lane).drain (s.chan c).lane := rfl
  have hlane : ∀ k, k ≠ (s.chan c).lane →
      ((s.laneStopped c (s.chan c).guard (s.chan c).lane).drain (s.chan c).lane).lane k = s.lane k := by
    intro k hk
    obtain ⟨⟨_, hframe⟩, _⟩ := (hinv.recvHalf_laneStopped c (s.chan c).guard (s.chan c).lane).drain
    exact (hframe.lane k hk).trans (State.lane_setLane_of_ne _ hk _)
  rw [State.stopChannels_eq hsel, hstopped, ← hown]
  rw [← hown] at hlane
  obtain ⟨u, hu⟩ : ∃ u : State, u = s.setChan c ((s.chan c).off (s.chan c).guard) := ⟨_, rfl⟩
  have hulane : ∀ k, u.lane k = s.lane k := fun k => by rw [hu]; rfl
  rw [← hu] at hlane ⊢
  exact foldl_single _ (fun k hk => hkept u k hk (hulane k)) fun k hk => hkept _ k hk (hlane k hk)

/-- The laws stand over what a host's grant does to the arbiter (R148). -/
theorem Inv.granted {s : State} (h : Inv s) {r : HostRecord} (hg : HostGranted s r) :
    Inv { s with arb := s.granted.arb, freeCount := s.granted.freeCount } where
  ring := h.ring
  buffers := h.buffers
  port := h.port
  records := h.records
  guard := h.guard
  modes := h.modes
  channels := h.channels
  ringPlace := h.ringPlace
  tracker := h.tracker
  classes := h.classes
  sends := h.sends
  fills := h.fills
  rests := h.rests
  inactive := by
    have hreset : s.resetn = true := (h.classes r (by rw [hg.1]; rfl)).1
    exact ⟨h.inactive.1, fun hr => by rw [hreset] at hr; cases hr⟩

/-- The grant of the stop of channel c (R41, R48 to R50): the lane stopped with the written GUARD, and what its side then
consumes. -/
theorem exec_channelStop {s : State} {r : HostRecord} {c : ChanId} (hinv : Inv s) (hg : HostGranted s r)
    (hw : SetupWrite r (.chanControl c)) (hrun : (s.chan c).state = .running) (hbe : r.be.getLsbD 0 = true)
    (hdata : r.data.getLsbD 0 = false) :
    exec .channelStop s = .next (((s.laneStopped c (writtenField r 2 16 (s.chan c).guard) (s.chan c).lane).drain
      (s.chan c).lane).withCycle s.granted r HostCycle.bare) := by
  have hreq : runRequestOf r.be r.data = some false := by rw [runRequestOf, hbe, hdata]; rfl
  have hrunning : (s.chan c).running = true := (Channel.running_iff _).mpr hrun
  change Host.Outcome.next (s.grantWhen _ _) = _
  rw [grantWhen_targets hg hw (by simp [hreq, hrunning])]
  refine congrArg Host.Outcome.next ?_
  obtain ⟨g, hgeq⟩ : ∃ g : State, g = { s with arb := s.granted.arb, freeCount := s.granted.freeCount } := ⟨_, rfl⟩
  have hginv : Inv g := hgeq ▸ hinv.granted hg
  have hgrun : (g.chan c).state = .running := by rw [hgeq]; exact hrun
  have htake : g.takeChanControl c r.be r.data = ((g.laneStopped c (g.chan c).guard (g.chan c).lane).drain
      (g.chan c).lane).setChan c ((((g.laneStopped c (g.chan c).guard (g.chan c).lane).drain (g.chan c).lane).chan c).writeGuard
        r.be r.data) := by
    unfold State.takeChanControl
    dsimp only
    rw [if_pos ((Channel.running_iff _).mpr hgrun), if_pos hreq, State.stopChannel_eq hginv hgrun]
  obtain ⟨d, hd⟩ : ∃ d : State, d = s.laneStopped c (writtenField r 2 16 (s.chan c).guard) (s.chan c).lane := ⟨_, rfl⟩
  have hdress : g.laneStopped c (g.chan c).guard (g.chan c).lane = d.dressed s.granted fun e => (s.chan e).guard := by
    refine State.ext_chans (s := d.dressed s.granted fun e => (s.chan e).guard) ?_ rfl fun e => ?_
    · rw [hgeq, hd]
      rfl
    · rw [State.laneStopped_chan, State.dressed_chan, hd, State.laneStopped_chan, hgeq]
      split
      · rename_i he
        rw [← he]
        rfl
      · rfl
  have hlane : (g.chan c).lane = (s.chan c).lane := by rw [hgeq]; rfl
  have hguard : ∀ e, ((d.drain (s.chan c).lane).chan e).guard =
      if c = e then writtenField r 2 16 (s.chan c).guard else (s.chan e).guard := by
    intro e
    rw [State.drain_guard, hd, State.laneStopped_chan]
    split <;> rfl
  have hdone : g.takeChanControl c r.be r.data =
      { d.drain (s.chan c).lane with arb := s.granted.arb, freeCount := s.granted.freeCount } := by
    rw [htake, hdress, hlane, State.dressed_drain]
    refine State.ext_chans (s := (d.drain (s.chan c).lane).dressed s.granted fun e => (s.chan e).guard) rfl rfl fun e => ?_
    rw [State.chan_setChan, State.dressed_chan, State.dressed_chan]
    have he := hguard e
    change _ = (d.drain (s.chan c).lane).chan e
    split
    · rename_i hce
      subst hce
      rw [if_pos rfl] at he
      unfold writtenField at he
      unfold Channel.writeGuard
      split
      · rename_i hbe2
        rw [if_pos hbe2] at he
        rw [← he]
      · rename_i hbe2
        rw [if_neg hbe2] at he
        rw [← he]
    · rename_i hce
      rw [if_neg hce] at he
      rw [← he]
  rw [← hd]
  change State.memoryCycle (State.takeChanControl _ c r.be r.data) r HostCycle.bare = _
  rw [← hgeq, hdone]
  rfl

theorem SendSide.stopFor_other {x : SendSide} {sel : ChanId → Bool} (h : ∀ q ∈ x.cur, sel q.chan = false) (now : Nat) :
    x.stopFor sel now = { x with queue := x.queue.filter fun e => !sel e.chan } := by
  unfold SendSide.stopFor
  split
  · rename_i q hq
    exact if_neg (by rw [h q hq]; exact Bool.false_ne_true)
  · rfl

theorem SendSide.stopFor_current {x : SendSide} {sel : ChanId → Bool} {q : SendRecord} (hcur : x.cur = some q)
    (h : sel q.chan = true) (now : Nat) :
    x.stopFor sel now = { x with queue := x.queue.filter fun e => !sel e.chan }.abandon now := by
  unfold SendSide.stopFor
  split
  · rename_i p hp
    rw [hcur] at hp
    cases hp
    exact if_pos h
  · rename_i hnone
    rw [hcur] at hnone
    cases hnone

/-- A channel serves its lane in its own direction alone. -/
theorem State.not_serves_of_dir {s : State} {c : ChanId} {dir dir' : Direction} (hdir : (s.chan c).dir = dir)
    (hne : dir' ≠ dir) (d : ChanId) (n : LaneId) (h : s.serves d dir' n = true) : (d == c) = false := by
  rw [beq_eq_false_iff_ne]
  rintro rfl
  exact hne (((s.serves_iff ..).mp h).2.1.symm.trans hdir)

/-- Settles O25: the receive side of the lane is not concerned and rests. -/
theorem outboundChannelIsStopped : Obligations.OutboundChannelIsStopped := by
  intro s r c hinv hg hw hrun hdir hbe hdata x kept t
  rw [exec_channelStop hinv hg hw hrun hbe hdata]
  have hrcv := hinv.rcv_stopFor (sel := fun d => d == c) (n := (s.chan c).lane)
    fun d => State.not_serves_of_dir (dir' := .inbound) hdir nofun d _
  have hrest : ((s.laneStopped c (writtenField r 2 16 (s.chan c).guard) (s.chan c).lane).drain (s.chan c).lane) =
      t.setSnd (s.chan c).lane (x.stopFor (fun d => d == c) s.now) := by
    have hlane := s.laneStopped_lane c (writtenField r 2 16 (s.chan c).guard) (s.chan c).lane
    rw [hrcv] at hlane
    rw [State.drain_rests]
    · unfold State.laneStopped
      rw [hrcv]
      rfl
    · rw [hlane]
      cases hc : (s.lane (s.chan c).lane).rcv.consumes with
      | true => exact .inr (hinv.rests _ hc)
      | false => exact .inl rfl
  rw [hrest]
  refine ⟨fun hcur => ?_, fun q hq hqc => ?_⟩
  · have hstop := SendSide.stopFor_other (sel := fun d => d == c)
      (fun q hq => beq_eq_false_iff_ne.mpr (hcur q hq)) s.now
    rw [hstop]
    rfl
  · have hstop := SendSide.stopFor_current (sel := fun d => d == c) hq (beq_iff_eq.mpr hqc) s.now
    have hend := (State.endRecord_free hinv.port hg.2.1 (s.chan c).lane).1
    rw [hstop]
    unfold SendSide.abandon
    dsimp only
    rw [hend]
    rfl

theorem RecvSide.stopFor_filling {x : RecvSide} {sel : ChanId → Bool} {q : FillRecord} (h : x.state = .filling q)
    (hsel : sel q.chan = true) :
    x.stopFor sel = { x with gather := [], mover := x.mover.endRecord, state := .discarding } := by
  unfold RecvSide.stopFor
  rw [h]
  exact if_pos hsel

theorem RecvSide.stopFor_closing {x : RecvSide} {sel : ChanId → Bool} {q : FillRecord} (h : x.state = .closing q)
    (hsel : sel q.chan = true) : x.stopFor sel = { x with gather := [], mover := x.mover.endRecord, state := .idle } := by
  unfold RecvSide.stopFor
  rw [h]
  exact if_pos hsel

theorem RecvSide.stopFor_slotWait {x : RecvSide} {sel : ChanId → Bool} {c : ChanId} {ended : Bool}
    (h : x.state = .slotWait c ended) (hsel : sel c = true) :
    x.stopFor sel = { x with slotWaitTimer := none, state := if ended then .idle else .discarding } := by
  unfold RecvSide.stopFor
  rw [h]
  exact if_pos hsel

/-- Settles O26: the send side of the lane is not concerned, and the receive side gives its record up by its state. -/
theorem inboundChannelIsStopped : Obligations.InboundChannelIsStopped := by
  intro s r c hinv hg hw hrun hdir hbe hdata n x off
  have hexec := exec_channelStop hinv hg hw hrun hbe hdata
  obtain ⟨v, hv⟩ : ∃ v : State, v = s.laneStopped c (writtenField r 2 16 (s.chan c).guard) n := ⟨_, rfl⟩
  have hsnd := hinv.snd_stopFor (sel := fun d => d == c) (n := n)
    (fun d => State.not_serves_of_dir (dir' := .outbound) hdir nofun d _) s.now
  have hstopped : v = (s.setChan c off).setRcv n (x.stopFor fun d => d == c) := by
    rw [hv]
    unfold State.laneStopped
    rw [hsnd]
    rfl
  have hend := (State.endRecord_free hinv.port hg.2.1 n).2
  have hrests : (∀ q, x.state ≠ .filling q ∨ q.chan ≠ c) → (∀ q, x.state ≠ .closing q ∨ q.chan ≠ c) →
      (∀ e, x.state ≠ .slotWait c e) → (x.stopFor fun d => d == c) = x := by
    intro hfill hclose hwait
    unfold RecvSide.stopFor
    split
    · rename_i q hq
      exact if_neg fun h => (hfill q).elim (fun h2 => h2 hq) fun h2 => h2 (beq_iff_eq.mp h)
    · rename_i q hq
      exact if_neg fun h => (hclose q).elim (fun h2 => h2 hq) fun h2 => h2 (beq_iff_eq.mp h)
    · rename_i d e hd
      exact if_neg fun h => hwait e (by rw [hd, beq_iff_eq.mp h])
    · rfl
  rw [hexec]
  change (∃ t : State, Host.Outcome.next ((State.drain _ n).withCycle _ r _) = _ ∧ _) ∧ _
  rw [← hv]
  refine ⟨?_, fun hfill hclose hwait => ?_, fun q hq hqc => ?_, fun q hq hqc => ?_, fun ended hwait => ?_⟩
  · obtain ⟨⟨_, hframe⟩, _⟩ := (hinv.recvHalf_laneStopped c (writtenField r 2 16 (s.chan c).guard) n).drain
    rw [← hv] at hframe
    have hchan : ∀ d, v.chan d = if c = d then off else s.chan d := fun d => by rw [hv, State.laneStopped_chan]; rfl
    have hlane : ∀ k, v.lane k = if n = k then { s.lane n with rcv := x.stopFor fun d => d == c } else s.lane k :=
      fun k => by rw [hstopped, State.setRcv_lane]; rfl
    have hserves : v.serves c .inbound n = false := by
      unfold State.serves
      rw [hchan, if_pos rfl]
      rfl
    refine ⟨_, rfl, ?_, ?_, fun k hk => ?_, ?_, fun d hd => ?_⟩
    · exact (hframe.chan c hserves).trans ((hchan c).trans (if_pos rfl))
    · exact (LaneEvent.drain v n).dev.trans (by rw [hv]; rfl)
    · exact (hframe.lane k hk).trans ((hlane k).trans (if_neg (Ne.symm hk)))
    · refine (congrArg Lane.snd hframe.own).trans ?_
      rw [hlane, if_pos rfl]
    · have hd' : v.chan d = s.chan d := (hchan d).trans (if_neg (Ne.symm hd))
      have hsetup := hframe.setup d
      rw [hd'] at hsetup
      obtain ⟨hstate, _, hdlane, _⟩ := setup_same hsetup
      have henables := congrArg Channel.enables hsetup
      refine ⟨hstate, hdlane, henables, fun hne => (hframe.chan d ?_).trans hd'⟩
      refine Bool.eq_false_iff.mpr fun hs => hne ?_
      rw [← hd']
      exact ((v.serves_iff ..).mp hs).2.2
  · rw [hstopped, hrests hfill hclose hwait, State.drain_rests]
    · exact congrArg (fun u : State => Host.Outcome.next (u.withCycle s.granted r HostCycle.bare))
        (State.setRcv_rcv (s.setChan c off) n)
    · rw [State.setRcv_lane_same]
      cases hc : x.consumes with
      | true => exact .inr (hinv.rests n hc)
      | false => exact .inl rfl
  · rw [hstopped, RecvSide.stopFor_filling (sel := fun d => d == c) hq (beq_iff_eq.mpr hqc), hend]
  · rw [hstopped, RecvSide.stopFor_closing (sel := fun d => d == c) hq (beq_iff_eq.mpr hqc), hend]
  · rw [hstopped, RecvSide.stopFor_slotWait (sel := fun d => d == c) hwait (beq_iff_eq.mpr rfl)]

end Sys2Proof.Machine
end

section
/-! SUPPORT. The stop of several channels at one grant, over the four lanes, and ACTIVE passing to 0 (R25, R27, R48 to R50). -/

namespace Sys2Proof.Machine

/-! ### Consumption leaves the ring's indices -/

/-- A notice leaves both indices (R164). -/
theorem State.reported_indices (s : State) (gate : Bool) (kind : NoticeKind) (source slot seq : Byte) (detail : BitVec 16) :
    (s.reported gate kind source slot seq detail).prod = s.nu.prod ∧
      (s.reported gate kind source slot seq detail).cons = s.nu.cons := by
  unfold State.reported NoticeUnit.take
  split
  · split
    · exact ⟨rfl, rfl⟩
    · exact ⟨rfl, rfl⟩
  · exact ⟨rfl, rfl⟩

/-- The indices of the ring stay (R166). -/
def SameIndices (s t : State) : Prop := t.nu.prod = s.nu.prod ∧ t.nu.cons = s.nu.cons

theorem SameIndices.trans {s t u : State} (h : SameIndices s t) (h2 : SameIndices t u) : SameIndices s u :=
  ⟨h2.1.trans h.1, h2.2.trans h.2⟩

theorem SameIndices.routeRecord (s : State) (n : LaneId) (b : Byte) : SameIndices s (s.routeRecord n b) := by
  cases hrouted : s.routed n (b.extractLsb' 0 4) with
  | none =>
    rw [State.routeRecord_miss hrouted]
    exact s.reported_indices ..
  | some c =>
    cases hfind : (s.chan c).findFree with
    | some k =>
      rw [State.routeRecord_pick hrouted hfind]
      exact ⟨rfl, rfl⟩
    | none =>
      rw [State.routeRecord_wait hrouted hfind]
      exact ⟨rfl, rfl⟩

theorem SameIndices.storeByte (s : State) (n : LaneId) (q : FillRecord) (b : Byte) : SameIndices s (s.storeByte n q b) := by
  unfold State.storeByte
  dsimp only
  split
  · exact ⟨rfl, rfl⟩
  · exact ⟨rfl, rfl⟩

theorem SameIndices.takeMark (s : State) (n : LaneId) (m : EndMark) : SameIndices s (s.takeMark n m) := by
  unfold State.takeMark
  split
  · rw [State.dropRecord_eq]
    exact s.reported_indices ..
  · split
    · exact ⟨rfl, rfl⟩
    · rw [State.dropWaiting_eq]
      exact s.reported_indices ..
  · exact ⟨rfl, rfl⟩
  · exact ⟨rfl, rfl⟩
  · exact ⟨rfl, rfl⟩

theorem SameIndices.consumeEntry (s : State) (n : LaneId) (e : RxEntry) : SameIndices s (s.consumeEntry n e) := by
  obtain ⟨b, last, mark⟩ := e
  have hlast : ∀ t : State, SameIndices t (t.afterLast n last) := fun t => by
    unfold State.afterLast
    split
    · exact ⟨rfl, rfl⟩
    · exact ⟨rfl, rfl⟩
  have hbare : SameIndices s (s.consumeEntry n ⟨b, last, none⟩) := by
    cases hstate : (s.lane n).rcv.state with
    | idle =>
      rw [State.consumeEntry_idle hstate]
      exact (SameIndices.routeRecord ..).trans (hlast _)
    | filling q =>
      rw [State.consumeEntry_filling hstate]
      exact (SameIndices.storeByte ..).trans (hlast _)
    | discarding | slotWait | closing =>
      rw [State.consumeEntry_other (by rw [hstate]; exact nofun) (by rw [hstate]; exact nofun)]
      exact hlast s
  cases mark with
  | none => exact hbare
  | some m =>
    rw [State.consumeEntry_mark]
    exact hbare.trans (.takeMark ..)

theorem SameIndices.drain (s : State) (n : LaneId) : SameIndices s (s.drain n) := by
  unfold State.drain
  generalize (s.lane n).rcv.rx.length = fuel
  induction fuel generalizing s with
  | zero => exact ⟨rfl, rfl⟩
  | succ f ih =>
    unfold State.consume
    split
    · exact ⟨rfl, rfl⟩
    · split
      · exact (SameIndices.consumeEntry (s.popRx n _) n _).trans (ih _)
      · exact ⟨rfl, rfl⟩

/-! ### The stop over the lanes -/

theorem RecvSide.stopFor_rx (x : RecvSide) (sel : ChanId → Bool) :
    (x.stopFor sel).rx = x.rx ∧ (x.stopFor sel).mover.inCycle = x.mover.inCycle := by
  have hend := Mover.endRecord_inCycle x.mover
  unfold RecvSide.stopFor
  split
  · split
    · exact ⟨rfl, hend⟩
    · exact ⟨rfl, rfl⟩
  · split
    · exact ⟨rfl, hend⟩
    · exact ⟨rfl, rfl⟩
  · split
    · exact ⟨rfl, rfl⟩
    · exact ⟨rfl, rfl⟩
  · exact ⟨rfl, rfl⟩

theorem SendSide.stopFor_inCycle (x : SendSide) (sel : ChanId → Bool) (now : Nat) :
    (x.stopFor sel now).mover.inCycle = x.mover.inCycle := by
  unfold SendSide.stopFor
  split
  · split
    · exact Mover.endRecord_inCycle _
    · rfl
  · rfl

/-- The stop of the channels `sel` of s has reached u, with the lanes of a list done (R48 to R50). -/
structure StopPass (s u : State) (sel : ChanId → Bool) (done : List LaneId) : Prop where
  event : LaneEvent (s.stopped sel) u
  indices : SameIndices s u
  todo : ∀ k, k ∉ done → u.lane k = s.lane k
  half : ∀ k ∈ done, RecvHalf u k ∧ ((u.lane k).rcv.consumes = true → (u.lane k).rcv.rx = [])
  own : ∀ k ∈ done, u.lane k = { s.lane k with snd := (s.lane k).snd.stopFor sel s.now, rcv := (u.lane k).rcv }
  chan : ∀ c, (∀ k ∈ done, (s.stopped sel).serves c .inbound k = false) → u.chan c = (s.stopped sel).chan c
  quiet : (∀ k ∈ done, (s.lane k).rcv.rx = []) → u.nu = s.nu
  empty : ∀ k ∈ done, (s.lane k).rcv.rx = [] → (u.lane k).rcv = (s.lane k).rcv.stopFor sel

theorem StopPass.start (s : State) (sel : ChanId → Bool) : StopPass s (s.stopped sel) sel [] where
  event := .refl _
  indices := by rw [State.stopped_eq]; exact ⟨rfl, rfl⟩
  todo k _ := s.stopped_lane sel k
  half := nofun
  own := nofun
  chan _ _ := rfl
  quiet _ := by rw [State.stopped_eq]
  empty := nofun

/-- A channel serves one lane. -/
theorem State.serves_lane {s : State} {c : ChanId} {d : Direction} {n k : LaneId} (h : s.serves c d n = true)
    (hne : k ≠ n) : s.serves c d k = false := by
  refine Bool.eq_false_iff.mpr fun hk => hne ?_
  rw [← ((s.serves_iff ..).mp h).2.2, ← ((s.serves_iff ..).mp hk).2.2]

/-- The next lane is stopped, and its receive side consumes what it can (R50). -/
theorem StopPass.next {s u : State} {sel : ChanId → Bool} {done : List LaneId} {n : LaneId} (h : StopPass s u sel done)
    (hhalf : RecvHalf s n) (hn : n ∉ done) : StopPass s (u.stopLane sel n) sel (n :: done) := by
  have hlane := h.todo n hn
  have hnow : u.now = s.now := h.event.now.trans (s.stopped_now sel)
  obtain ⟨v, hv⟩ : ∃ v : State, v = u.setLane n { s.lane n with
      snd := (s.lane n).snd.stopFor sel s.now
      rcv := (s.lane n).rcv.stopFor sel } := ⟨_, rfl⟩
  have hstop : u.stopLane sel n = v.drain n := by
    unfold State.stopLane
    dsimp only
    rw [hlane, hnow, hv]
  have hvlane : ∀ k, v.lane k = if n = k then { s.lane n with
      snd := (s.lane n).snd.stopFor sel s.now
      rcv := (s.lane n).rcv.stopFor sel } else u.lane k := fun k => by rw [hv, State.lane_setLane]
  have hvchan : ∀ c, v.chan c = u.chan c := fun c => by rw [hv]; rfl
  have hserves : ∀ c k, v.serves c .inbound k = (s.stopped sel).serves c .inbound k := by
    intro c k
    refine serves_same ?_ ..
    rw [hvchan]
    exact h.event.setup c
  have hvn : (v.lane n).rcv = (s.lane n).rcv.stopFor sel := by rw [hvlane, if_pos rfl]
  have hvhalf : RecvHalf v n := by
    refine hhalf.stopped (fun c => (hserves c n).trans (s.stopped_serves ..)) (fun c hc => ?_) hvn
    rw [hserves] at hc
    have hsel : sel c = false := by
      rw [State.stopped_serves, Bool.and_eq_true, Bool.not_eq_true'] at hc
      exact hc.2
    rw [hvchan, h.chan c fun k hk => State.serves_lane hc fun hkn => hn (hkn ▸ hk), State.stopped_chan,
      if_neg (by rw [hsel]; exact Bool.false_ne_true)]
  have hvevent : LaneEvent u v := by
    rw [hv]
    refine .setLane (by rw [hlane]) ?_ ?_
    · rw [hlane]
      exact SendSide.stopFor_inCycle ..
    · rw [hlane]
      exact (RecvSide.stopFor_rx ..).2
  obtain ⟨⟨hdrained, hframe⟩, hrests⟩ := hvhalf.drain
  rw [hstop]
  have hother : ∀ k, k ≠ n → (v.drain n).lane k = u.lane k := fun k hk => by
    rw [hframe.lane k hk, hvlane, if_neg (Ne.symm hk)]
  refine ⟨(h.event.trans hvevent).trans (.drain ..), ?_, fun k hk => ?_, fun k hk => ?_, fun k hk => ?_, fun c hc => ?_,
    fun hquiet => ?_, fun k hk hrx => ?_⟩
  · refine h.indices.trans (SameIndices.trans (t := v) ?_ (.drain ..))
    rw [hv]
    exact ⟨rfl, rfl⟩
  · obtain ⟨hkn, hkd⟩ := List.ne_and_not_mem_of_not_mem_cons hk
    rw [hother k hkn, h.todo k hkd]
  · by_cases hkn : k = n
    · subst hkn
      exact ⟨hdrained, hrests⟩
    · have hkd := (List.mem_cons.mp hk).resolve_left hkn
      obtain ⟨hk1, hk2⟩ := h.half k hkd
      rw [hother k hkn]
      refine ⟨hk1.congr (by rw [hother k hkn]) (fun c => ?_) (fun c hc => ?_), hk2⟩
      · rw [serves_same (hframe.setup c), hserves, serves_same (h.event.setup c)]
      · rw [hframe.chan c, hvchan]
        rw [hserves, ← serves_same (h.event.setup c)]
        exact State.serves_lane hc (Ne.symm hkn)
  · by_cases hkn : k = n
    · subst hkn
      have hown := hframe.own
      rw [hvlane, if_pos rfl] at hown
      exact hown
    · rw [hother k hkn]
      exact h.own k ((List.mem_cons.mp hk).resolve_left hkn)
  · rw [hframe.chan c ((hserves c n).trans (hc n List.mem_cons_self)), hvchan,
      h.chan c fun k hk => hc k (List.mem_cons_of_mem n hk)]
  · have hrx : (v.lane n).rcv.rx = [] := by
      rw [hvn, (RecvSide.stopFor_rx ..).1]
      exact hquiet n List.mem_cons_self
    rw [State.drain_rests (.inr hrx), hv]
    exact h.quiet fun k hk => hquiet k (List.mem_cons_of_mem n hk)
  · by_cases hkn : k = n
    · subst hkn
      rw [State.drain_rests (.inr (by rw [hvn, (RecvSide.stopFor_rx ..).1]; exact hrx)), hvn]
    · rw [hother k hkn]
      exact h.empty k ((List.mem_cons.mp hk).resolve_left hkn) hrx

/-- The stop of channels over the four lanes. -/
theorem stopPass_stopChannels {s : State} (hhalf : ∀ n, RecvHalf s n) {sel run : ChanId → Bool}
    (hrun : ∀ c, run c = (sel c && (s.chan c).running)) : StopPass s (s.stopChannels sel) run [3, 2, 1, 0] := by
  rw [State.stopChannels_eq hrun, allLanes, List.foldl_cons, List.foldl_cons, List.foldl_cons, List.foldl_cons, List.foldl_nil]
  exact ((((StopPass.start s run).next (hhalf 0) (by decide)).next (hhalf 1) (by decide)).next (hhalf 2) (by decide)).next
    (hhalf 3) (by decide)

/-! ### ACTIVE passing to 0 (R25, R27) -/

/-- What a RING_SIZE of a control write can change (R29, R172). -/
theorem State.takeRingSize_frame (s : State) (size : BitVec 3) :
    (s.takeRingSize size).lanes = s.lanes ∧ (s.takeRingSize size).chans = s.chans ∧
      (s.takeRingSize size).host = s.host ∧ (s.takeRingSize size).dev.active = s.dev.active ∧
      (s.takeRingSize size).dev.irqEn = s.dev.irqEn ∧ (s.takeRingSize size).dev.patience = s.dev.patience := by
  unfold State.takeRingSize State.ringChange
  split
  · exact ⟨rfl, rfl, rfl, rfl, rfl, rfl⟩
  · split
    · rw [State.setupRejected_eq]
      exact ⟨rfl, rfl, rfl, rfl, rfl, rfl⟩
    · rw [State.startWriter_eq]
      exact ⟨rfl, rfl, rfl, rfl, rfl, rfl⟩

/-- A receive side with no channel to serve has no record and, once it rests, nothing buffered (R50, R125). -/
theorem RecvHalf.unserved {s : State} {n : LaneId} (h : RecvHalf s n) (hnone : ∀ c, s.serves c .inbound n = false)
    (hrest : (s.lane n).rcv.consumes = true → (s.lane n).rcv.rx = []) (hcycle : (s.lane n).rcv.mover.inCycle = false) :
    ((s.lane n).rcv.state = .idle ∨ (s.lane n).rcv.state = .discarding) ∧ (s.lane n).rcv.gather = [] ∧
      (s.lane n).rcv.mover = .none ∧ (s.lane n).rcv.rx = [] := by
  have htarget : (s.lane n).rcv.target = none := by
    cases hp : (s.lane n).rcv.target with
    | none => rfl
    | some p =>
      have hserves := (h.record.1 p hp).1
      rw [hnone] at hserves
      cases hserves
  have hstate : (s.lane n).rcv.state = .idle ∨ (s.lane n).rcv.state = .discarding := by
    cases hst : (s.lane n).rcv.state with
    | idle => exact .inl rfl
    | discarding => exact .inr rfl
    | filling q =>
      rw [RecvSide.target_filling (.inl hst)] at htarget
      cases htarget
    | closing q =>
      rw [RecvSide.target_filling (.inr hst)] at htarget
      cases htarget
    | slotWait c e =>
      have hserves := h.record.2 c (by unfold RecvSide.waitsFor; rw [hst]; rfl)
      rw [hnone] at hserves
      cases hserves
  obtain ⟨hgather, hwaiting, hbusy⟩ := h.shape.rests htarget
  refine ⟨hstate, hgather, ?_, hrest ?_⟩
  · cases hm : (s.lane n).rcv.mover with
    | none => rfl
    | waiting => exact absurd hm hwaiting
    | busy => exact absurd hm hbusy
    | orphaned =>
      rw [hm] at hcycle
      cases hcycle
  · unfold RecvSide.consumes
    rcases hstate with h | h <;> rw [h]

theorem Mover.inCycle_false {m : Mover} (h : m.endRecord = .none) : m.inCycle = false := by
  rw [← Mover.endRecord_inCycle, h]
  rfl

/-- Settles O17: every RUNNING channel is stopped, and no channel serves a lane from then on. -/
theorem activeClearStopsEveryChannel : Obligations.ActiveClearStopsEveryChannel := by
  intro s r hinv hg hc hactive hoff
  obtain ⟨g, hgeq⟩ : ∃ g : State, g = { s with
      arb := s.granted.arb, freeCount := s.granted.freeCount, dev := { s.dev with active := false } } := ⟨_, rfl⟩
  have hglane : ∀ n, g.lane n = s.lane n := fun n => by rw [hgeq]; rfl
  have hgchan : ∀ c, g.chan c = s.chan c := fun c => by rw [hgeq]; rfl
  have hghalf : ∀ n, RecvHalf g n := by
    intro n
    rw [hgeq]
    exact (hinv.recvHalf n).congr rfl (fun _ => rfl) fun _ _ => rfl
  obtain ⟨run, hrun⟩ : ∃ run : ChanId → Bool, run = fun c => (s.chan c).running := ⟨_, rfl⟩
  have hrunc : ∀ c, run c = true ↔ (s.chan c).state = .running := fun c => by rw [hrun]; exact Channel.running_iff _
  obtain ⟨u, hu⟩ : ∃ u : State, u = g.stopChannels fun _ => true := ⟨_, rfl⟩
  have hpass : StopPass g u run [3, 2, 1, 0] := by
    rw [hu]
    exact stopPass_stopChannels hghalf fun c => by rw [hrun, hgchan, Bool.true_and]
  have hall : ∀ n : LaneId, n ∈ [3, 2, 1, 0] := by decide
  have hnone : ∀ c d n, (g.stopped run).serves c d n = false := by
    intro c d n
    rw [State.stopped_serves]
    cases hs : g.serves c d n with
    | false => rfl
    | true =>
      have := ((g.serves_iff ..).mp hs).1
      rw [hgchan, ← hrunc] at this
      rw [this]
      rfl
  obtain ⟨hact, hirq, hsize, hpat⟩ := s.controlPresented_fields r
  obtain ⟨v, hv⟩ : ∃ v : State, v = u.takeIrqPatience (s.controlPresented r.be r.data) := ⟨_, rfl⟩
  obtain ⟨size, hsizeq⟩ : ∃ size : BitVec 3, size = writtenField r 1 8 s.dev.ringSize := ⟨_, rfl⟩
  have hexec : exec .activeClear s = .next ((v.takeRingSize size).memoryCycle r HostCycle.bare) := by
    change Host.Outcome.next (s.grantWhen _ _) = _
    rw [grantWhen_setup hg hc.1 (by rw [plainControl_of_control hc, hact, hoff, hactive]; rfl)]
    refine congrArg (fun t : State => Host.Outcome.next (t.memoryCycle r HostCycle.bare)) ?_
    have htake : State.takeControl { s with arb := s.granted.arb, freeCount := s.granted.freeCount } .low r.be r.data =
        ((State.takeActive { s with arb := s.granted.arb, freeCount := s.granted.freeCount }
          ((s.controlPresented r.be r.data).getLsbD 0)).takeIrqPatience (s.controlPresented r.be r.data)).takeRingSize
            (field (s.controlPresented r.be r.data) 8 3) :=
      if_neg (by rw [carriesRestart_of_control hc]; exact Bool.false_ne_true)
    have hstop : State.takeActive { s with arb := s.granted.arb, freeCount := s.granted.freeCount } false = u := by
      rw [hu, hgeq]
      exact if_pos (by rw [hactive]; rfl)
    refine htake.trans ?_
    rw [hact, hoff, hstop, hsize, ← hsizeq, hv]
  obtain ⟨hlanes, hchans, hhost, hdactive, hdirq, hdpat⟩ := v.takeRingSize_frame size
  obtain ⟨t, ht⟩ : ∃ t : State, t = (v.takeRingSize size).memoryCycle r HostCycle.bare := ⟨_, rfl⟩
  have hdev : u.dev = g.dev := by
    rw [hpass.event.dev, State.stopped_eq]
  have hvdev : v.dev = { u.dev with
      irqEn := writtenBit r 1 s.dev.irqEn, patience := writtenField r 2 16 s.dev.patience } := by
    rw [hv, ← hirq, ← hpat]
    rfl
  have htlane : ∀ n, t.lane n = u.lane n := by
    intro n
    rw [ht, State.memoryCycle_lane]
    unfold State.lane
    rw [hlanes, hv]
    rfl
  have htchan : ∀ c, t.chan c = (g.stopped run).chan c := by
    intro c
    have huc := hpass.chan c fun k _ => hnone c _ k
    rw [← huc, ht]
    change (v.takeRingSize size).chan c = _
    unfold State.chan
    rw [hchans, hv]
    rfl
  have howner : s.portOwner = none := by
    unfold State.portOwner
    rw [hg.2.1]
    rfl
  have hsnd : ∀ n, (t.lane n).snd = (s.lane n).snd.stopFor run g.now := by
    intro n
    have hown := congrArg Lane.snd (hpass.own n (hall n))
    rw [htlane, hown, hglane]
  have hqueue : ∀ n, ((s.lane n).snd.queue.filter fun e => !run e.chan) = [] := by
    intro n
    refine List.filter_eq_nil_iff.mpr fun e he => ?_
    have hserves := ((hinv.sends.2 n).1 e he).1
    rw [(hrunc _).mpr ((s.serves_iff ..).mp hserves).1]
    exact Bool.false_ne_true
  rw [hexec, ← ht]
  refine ⟨t, rfl, ?_, ?_, ?_, ?_, ?_, fun c => ?_, fun n hcur => ?_, fun n hcur => ?_, fun n => ?_, fun hrx hsame => ?_,
    fun size' hsize' hother h7 hempty hplace => ?_⟩
  · rw [ht]
    rfl
  · rw [ht]
    rfl
  · rw [ht]
    change (v.takeRingSize size).dev.active = false
    rw [hdactive, hvdev, hdev, hgeq]
  · rw [ht]
    change (v.takeRingSize size).dev.irqEn = _
    rw [hdirq, hvdev]
  · rw [ht]
    change (v.takeRingSize size).dev.patience = _
    rw [hdpat, hvdev]
  · rw [htchan, State.stopped_chan, hgchan]
    by_cases hstate : (s.chan c).state = .running
    · rw [if_pos ((hrunc c).mpr hstate), if_pos hstate]
      rfl
    · rw [if_neg (fun h => hstate ((hrunc c).mp h)), if_neg hstate]
  · rw [hsnd, SendSide.stopFor_other (fun q hq => by rw [hcur] at hq; cases hq), hqueue]
  · obtain ⟨q, hq⟩ := Option.ne_none_iff_exists'.mp hcur
    have hserves := ((hinv.sends.2 n).2 q hq).1
    have hend := (State.endRecord_free hinv.port hg.2.1 n).1
    rw [hsnd, SendSide.stopFor_current hq ((hrunc _).mpr ((s.serves_iff ..).mp hserves).1), hqueue]
    unfold SendSide.abandon
    dsimp only
    rw [hend, hgeq]
  · obtain ⟨hhalf, hrest⟩ := hpass.half n (hall n)
    rw [htlane]
    refine hhalf.unserved (fun c => (serves_same (hpass.event.setup c) ..).trans (hnone c _ n)) hrest ?_
    have hcycle := hpass.event.rcvCycle n
    rw [State.stopped_lane, hglane] at hcycle
    rw [hcycle]
    exact Mover.inCycle_false (State.endRecord_free hinv.port hg.2.1 n).2
  · have hsame' : size = v.dev.ringSize := by
      rw [hsizeq, hsame, hvdev, hdev, hgeq]
    have hkeep : v.takeRingSize size = v := if_pos hsame'
    rw [ht, hkeep]
    change v.nu = s.nu
    rw [hv]
    change u.nu = s.nu
    rw [hpass.quiet fun k _ => by rw [hglane]; exact hrx k, hgeq]
  · have hnew : size' = size := hsize'.trans hsizeq.symm
    have hvsize : v.dev.ringSize = s.dev.ringSize := by rw [hvdev, hdev, hgeq]
    have hvbase : v.dev.ringBase = s.dev.ringBase := by rw [hvdev, hdev, hgeq]
    have hindices : v.nu.prod = v.nu.cons := by
      have hprod := hpass.indices.1
      have hcons := hpass.indices.2
      rw [hgeq] at hprod hcons
      rw [hv]
      exact hprod.trans (hempty.trans hcons.symm)
    have hfits : size ≠ 0 → RingFits v v.dev.ringBase size := by
      intro h0
      obtain ⟨hstop, hsetup⟩ := hplace (by rw [hnew]; exact h0)
      have hvsetup : v.setupExtent = s.setupExtent := by
        have hsbase : u.sbase = s.sbase := by
          rw [hpass.event.sbase, State.stopped_eq, hgeq]
        unfold State.setupExtent State.setupBase
        rw [hv]
        change (⟨u.sbase.toNat * 0x10000, u.sbase.toNat * 0x10000 + 512⟩ : Extent) = _
        rw [hsbase]
      rw [hvbase, ← hnew]
      refine ⟨hstop, by rw [hvsetup]; exact hsetup, fun c hc => ?_⟩
      have hvc : v.chan c = (g.stopped run).chan c := by
        rw [← hpass.chan c fun k _ => hnone c _ k, hv]
        rfl
      rw [hvc, State.stopped_chan, hgchan] at hc
      split at hc
      · cases hc
      · rename_i hrunning
        exact absurd ((hrunc c).mpr hc) hrunning
    have hne : size ≠ v.dev.ringSize := by rw [hvsize, ← hnew]; exact hother
    have hchange : v.takeRingSize size = v.ringChange v.dev.ringBase size := if_neg hne
    rw [ht, hchange, State.ringChange_none (hnew ▸ h7) (State.ringCheck_none (hnew ▸ h7) hindices hfits), hnew]
    rfl

end Sys2Proof.Machine
end

section
/-! SUPPORT. One send side with the slots of its channels: the laws of R56, R61, R105, R106, R112 and R113 for one lane, and what
each operation of the send side keeps of them. -/

namespace Sys2Proof.Machine

/-! ### The entries of a queue -/

theorem entryCount_cons (e : QueueEntry) (q : List QueueEntry) (c : ChanId) (k : Nat) :
    entryCount (e :: q) c k = entryCount q c k + if e.chan = c ∧ e.slot = k then 1 else 0 := by
  unfold entryCount
  rw [List.filter_cons]
  by_cases h : e.chan = c ∧ e.slot = k
  · rw [if_pos (by simpa using h), if_pos h, List.length_cons]
  · rw [if_neg (by simpa using h), if_neg h, Nat.add_zero]

theorem entryCount_append (q : List QueueEntry) (e : QueueEntry) (c : ChanId) (k : Nat) :
    entryCount (q ++ [e]) c k = entryCount q c k + if e.chan = c ∧ e.slot = k then 1 else 0 := by
  unfold entryCount
  rw [List.filter_append, List.length_append]
  by_cases h : e.chan = c ∧ e.slot = k
  · rw [if_pos h, List.filter_cons_of_pos (by simpa using h)]
    rfl
  · rw [if_neg h, List.filter_cons_of_neg (by simpa using h)]
    rfl

/-- The entries of one slot withdrawn (R68). -/
theorem entryCount_withdrawn (q : List QueueEntry) (c d : ChanId) (k j : Nat) :
    entryCount (q.filter fun e => !(e.chan == c && e.slot == k)) d j =
      if c = d ∧ k = j then 0 else entryCount q d j := by
  unfold entryCount
  rw [List.filter_filter]
  split
  · rename_i h
    obtain ⟨rfl, rfl⟩ := h
    rw [List.length_eq_zero_iff, List.filter_eq_nil_iff]
    simp
  · rename_i h
    congr 1
    refine List.filter_congr fun e _ => ?_
    by_cases he : e.chan = d ∧ e.slot = j
    · obtain ⟨rfl, rfl⟩ := he
      have hne : e.chan = c → ¬e.slot = k := fun hc hk => h ⟨hc.symm, hk.symm⟩
      simpa [← imp_iff_not_or] using hne
    · have hfalse : (e.chan == d && e.slot == j) = false := by simpa using he
      rw [hfalse, Bool.false_and]

/-- The entries of stopped channels leave (R49). -/
theorem entryCount_stopped (q : List QueueEntry) (sel : ChanId → Bool) {d : ChanId} (h : sel d = false) (j : Nat) :
    entryCount (q.filter fun e => !sel e.chan) d j = entryCount q d j := by
  unfold entryCount
  rw [List.filter_filter]
  congr 1
  refine List.filter_congr fun e _ => ?_
  by_cases he : e.chan = d
  · rw [he, h, Bool.not_false, Bool.and_true]
  · rw [beq_eq_false_iff_ne.mpr he, Bool.false_and, Bool.false_and]

theorem entryCount_pos {q : List QueueEntry} {e : QueueEntry} (h : e ∈ q) : 0 < entryCount q e.chan e.slot :=
  List.length_pos_of_mem (List.mem_filter.mpr ⟨h, by simp⟩)

/-! ### A send side by itself -/

/-- A send side by itself (R105, R106, R113). -/
structure SendShape (x : SendSide) : Prop where
  queued : x.queue.length ≤ 16
  buffered : x.tx.length ≤ 16
  asking : x.mover = .waiting ∨ x.mover = .busy → x.tx.length ≤ 12
  record : SendRecordLaw x

/-- The channel, slot and length of the current record. -/
def SendSide.sending (x : SendSide) : Option (ChanId × Nat × Nat) := x.cur.map fun q => (q.chan, q.slot, q.len)

theorem SendSide.sending_some {x : SendSide} {q : SendRecord} (h : x.cur = some q) :
    x.sending = some (q.chan, q.slot, q.len) := by rw [SendSide.sending, h]; rfl

theorem SendSide.sending_none {x : SendSide} (h : x.cur = none) : x.sending = none := by rw [SendSide.sending, h]; rfl

/-- A side without a record, and nothing asked for or buffered. -/
theorem SendShape.rest {x : SendSide} (hqueue : x.queue.length ≤ 16) (hcur : x.cur = none) (htx : x.tx = [])
    (hw : x.mover ≠ .waiting) (hb : x.mover ≠ .busy) : SendShape x := by
  refine ⟨hqueue, by rw [htx]; exact Nat.zero_le _, fun _ => by rw [htx]; exact Nat.zero_le _, fun r hr => ?_, fun _ => ⟨htx, hw, hb⟩⟩
  rw [hcur] at hr
  cases hr

/-- The next read is presented (R114). -/
theorem SendShape.present {x : SendSide} (h : SendShape x) : SendShape x.present := by
  unfold SendSide.present
  split
  · rename_i q hq
    split
    · rename_i hcond
      obtain ⟨hcur, _⟩ := h.record
      obtain ⟨hpos, hread, hle, _, hrest⟩ := hcur q hq
      refine ⟨h.queued, h.buffered, fun _ => Nat.le_of_add_le_add_right hcond.2.1, fun r hr => ?_, fun hnone => ?_⟩
      · cases hq.symm.trans hr
        exact ⟨hpos, hread, hle, fun _ => hcond.2.2, hrest⟩
      · cases hnone.symm.trans hq
    · exact h
  · exact h

theorem SendSide.present_frame (x : SendSide) : x.present = { x with mover := x.present.mover } := by
  unfold SendSide.present
  split
  · split <;> rfl
  · rfl

/-- A byte is offered, or the side is starved, for a record with bytes left to offer (R91, R115, R116). -/
theorem SendShape.offerNext {x : SendSide} {q : SendRecord} (hqueue : x.queue.length ≤ 16) (htx : x.tx.length ≤ 16)
    (hasking : x.mover = .waiting ∨ x.mover = .busy → x.tx.length ≤ 12 ∧ q.read < q.len)
    (hread : q.read = q.offered + x.tx.length) (hle : q.read ≤ q.len) (hoffered : q.offered < q.len) (hstrobe : x.strobe = none)
    (timer : Option Nat) : SendShape (x.offerNext timer q) := by
  cases hbuf : x.tx with
  | nil =>
    rw [SendSide.offerNext_nil hbuf]
    refine ⟨hqueue, htx, fun hm => (hasking hm).1, fun r hr => ?_, nofun⟩
    cases hr
    exact ⟨Nat.zero_lt_of_lt hoffered, hread, hle, fun hm => (hasking hm).2, hstrobe, fun _ => ⟨hbuf, hoffered⟩⟩
  | cons b rest =>
    rw [hbuf, List.length_cons] at htx hasking hread
    unfold SendSide.offerNext
    rw [hbuf]
    refine SendShape.present ⟨hqueue, Nat.le_of_succ_le htx, fun hm => Nat.le_of_succ_le (hasking hm).1, fun r hr => ?_, nofun⟩
    cases hr
    refine ⟨Nat.zero_lt_of_lt hoffered, ?_, hle, fun hm => (hasking hm).2, hstrobe, nofun⟩
    change q.read = q.offered + 1 + rest.length
    omega

theorem SendSide.offerNext_frame (x : SendSide) (timer : Option Nat) (q : SendRecord) :
    (x.offerNext timer q).queue = x.queue ∧ (x.offerNext timer q).sending = some (q.chan, q.slot, q.len) ∧
      (x.offerNext timer q).strobe = x.strobe := by
  unfold SendSide.offerNext
  split
  · unfold SendSide.sending
    rw [SendSide.present_frame]
    exact ⟨rfl, rfl, rfl⟩
  · exact ⟨rfl, rfl, rfl⟩

theorem SendShape.abandon {x : SendSide} (h : SendShape x) (now : Nat) : SendShape (x.abandon now) := by
  have hend : x.mover.endRecord ≠ .waiting ∧ x.mover.endRecord ≠ .busy := by
    cases x.mover <;> exact ⟨nofun, nofun⟩
  exact .rest h.queued rfl rfl hend.1 hend.2

/-! ### One send side with its slots -/

/-- A send side with the slots of the channels that it serves (R56, R61, R106, R112). -/
structure SendHalf (s : State) (n : LaneId) : Prop where
  shape : SendShape (s.lane n).snd
  tracked : ∀ c, s.serves c .outbound n = true → (s.chan c).Tracked
  queued : ∀ e ∈ (s.lane n).snd.queue, s.serves e.chan .outbound n = true
  count : ∀ c, s.serves c .outbound n = true → ∀ k,
    entryCount (s.lane n).snd.queue c k = if (s.slot c k).state = .committed then 1 else 0
  sending : ∀ c, s.serves c .outbound n = true → ∀ k, (s.slot c k).state = .sending ↔
    (s.lane n).snd.sending = some (c, k, (s.slot c k).len)
  current : ∀ p ∈ (s.lane n).snd.sending, s.serves p.1 .outbound n = true ∧ (s.slot p.1 p.2.1).len = p.2.2

/-- What an operation of lane n's send side leaves as it is. -/
structure SendFrame (s t : State) (n : LaneId) : Prop where
  lane : ∀ k, k ≠ n → t.lane k = s.lane k
  own : t.lane n = { s.lane n with snd := (t.lane n).snd }
  setup : ∀ c, (t.chan c).setup = (s.chan c).setup
  chan : ∀ c, s.serves c .outbound n = false → t.chan c = s.chan c

theorem SendFrame.of_move {s t : State} {n : LaneId} {c : ChanId} {x : SendSide} (hmove : SlotMove s t c)
    (hserves : s.serves c .outbound n = true) (hlane : ∀ k, t.lane k = (s.setSnd n x).lane k) : SendFrame s t n where
  lane k hk := by rw [hlane, State.setSnd_lane, if_neg (Ne.symm hk)]
  own := by rw [hlane, State.setSnd_lane_same]
  setup := hmove.setup
  chan d hd := hmove.other d (by rintro rfl; rw [hserves] at hd; cases hd)

theorem SendFrame.of_snd {s t : State} {n : LaneId} {x : SendSide} (hchan : ∀ d, t.chan d = s.chan d)
    (hlane : ∀ k, t.lane k = (s.setSnd n x).lane k) : SendFrame s t n where
  lane k hk := by rw [hlane, State.setSnd_lane, if_neg (Ne.symm hk)]
  own := by rw [hlane, State.setSnd_lane_same]
  setup d := by rw [hchan]
  chan d _ := hchan d

/-- An operation of lane n's send side keeps its half of the laws and everything else. -/
def SendStep (s t : State) (n : LaneId) : Prop := SendHalf t n ∧ SendFrame s t n

/-- The current record is a slot that is SENDING. -/
theorem SendHalf.current_state {s : State} {n : LaneId} (h : SendHalf s n) {c : ChanId} {k len : Nat}
    (hp : (s.lane n).snd.sending = some (c, k, len)) : s.serves c .outbound n = true ∧ (s.slot c k).state = .sending ∧
      (s.slot c k).len = len ∧ k < (s.chan c).count.toNat := by
  obtain ⟨hserves, hlen⟩ := h.current (c, k, len) hp
  have hstate := (h.sending c hserves k).mpr (by rw [hp, hlen])
  refine ⟨hserves, hstate, hlen, (h.tracked c hserves).lt ?_⟩
  change (s.slot c k).state ≠ _
  rw [hstate]
  exact SlotState.noConfusion

/-- The entries of a queue name COMMITTED slots. -/
theorem SendHalf.queued_state {s : State} {n : LaneId} (h : SendHalf s n) {e : QueueEntry}
    (he : e ∈ (s.lane n).snd.queue) : (s.slot e.chan e.slot).state = .committed ∧ e.slot < (s.chan e.chan).count.toNat := by
  have hserves := h.queued e he
  have hcommitted : (s.slot e.chan e.slot).state = .committed := by
    by_contra hne
    have hpos := entryCount_pos he
    rw [h.count e.chan hserves e.slot, if_neg hne] at hpos
    exact absurd hpos (Nat.lt_irrefl 0)
  refine ⟨hcommitted, (h.tracked _ hserves).lt ?_⟩
  change (s.slot e.chan e.slot).state ≠ _
  rw [hcommitted]
  exact SlotState.noConfusion

/-- The half stands when no slot moves and the queue and the record stay. -/
theorem SendHalf.kept {s t : State} {n : LaneId} {c : ChanId} {x : SendSide} (h : SendHalf s n) (hmove : SlotMove s t c)
    (hslot : ∀ d j, t.slot d j = s.slot d j) (hsnd : (t.lane n).snd = x) (hshape : SendShape x)
    (hqueue : x.queue = (s.lane n).snd.queue) (hcur : x.sending = (s.lane n).snd.sending) : SendHalf t n := by
  have hserves : ∀ d, t.serves d .outbound n = s.serves d .outbound n := fun d => serves_same (hmove.setup d) ..
  refine ⟨by rw [hsnd]; exact hshape, fun d hd => ?_, fun e he => ?_, fun d hd k => ?_, fun d hd k => ?_, fun p hp => ?_⟩
  · rw [hserves] at hd
    exact hmove.tracked (h.tracked d hd) fun k hk => by rw [hslot]; exact (h.tracked d hd).slots k hk
  · rw [hsnd, hqueue] at he
    rw [hserves]
    exact h.queued e he
  · rw [hserves] at hd
    rw [hsnd, hqueue, hslot]
    exact h.count d hd k
  · rw [hserves] at hd
    rw [hsnd, hcur, hslot]
    exact h.sending d hd k
  · rw [hsnd, hcur] at hp
    rw [hserves, hslot]
    exact h.current p hp

/-- What becomes of a side's record when slot k of channel c takes r: it is that slot's from now on, it was, or it is
another's. -/
inductive SendMove (x y : SendSide) (c : ChanId) (k : Nat) (r : SlotRec) : Prop
  | start (hstate : r.state = .sending) (hx : x.sending = none) (hy : y.sending = some (c, k, r.len))
  | finish (hstate : r.state ≠ .sending) (len : Nat) (hx : x.sending = some (c, k, len)) (hy : y.sending = none)
  | keep (hstate : r.state ≠ .sending) (hx : ∀ len, x.sending ≠ some (c, k, len)) (hy : y.sending = x.sending)

/-- The half stands when slot k of channel c takes r, and the queue and the record follow. -/
theorem SendHalf.put {s t : State} {n : LaneId} {c : ChanId} {k : Nat} {r : SlotRec} {x : SendSide} (h : SendHalf s n)
    (hserves : s.serves c .outbound n = true) (hmove : SlotMove s t c) (hput : SlotPut s t c k r)
    (hrec : SlotRecLaw (s.chan c) r) (hk : k < (s.chan c).count.toNat) (hsnd : (t.lane n).snd = x) (hshape : SendShape x)
    (hqueue : ∀ e ∈ x.queue, s.serves e.chan .outbound n = true)
    (hcount : ∀ d j, entryCount x.queue d j = if c = d ∧ k = j then (if r.state = .committed then 1 else 0)
      else entryCount (s.lane n).snd.queue d j)
    (hcur : SendMove (s.lane n).snd x c k r) : SendHalf t n := by
  have hserves' : ∀ d, t.serves d .outbound n = s.serves d .outbound n := fun d => serves_same (hmove.setup d) ..
  have hlength := (h.tracked c hserves).length
  have hown : t.slot c k = r := by rw [hput, if_pos ⟨rfl, rfl, by rw [hlength]; exact hk⟩]
  have hother : ∀ d j, ¬(c = d ∧ k = j) → t.slot d j = s.slot d j := fun d j hne => by
    rw [hput, if_neg fun hh => hne ⟨hh.1, hh.2.1⟩]
  refine ⟨by rw [hsnd]; exact hshape, fun d hd => ?_, fun e he => ?_, fun d hd j => ?_, fun d hd j => ?_, fun p hp => ?_⟩
  · rw [hserves'] at hd
    refine hmove.tracked (h.tracked d hd) fun j hj => ?_
    rw [hput]
    split
    · rename_i hdj
      rw [← hdj.1]
      exact hrec
    · exact (h.tracked d hd).slots j hj
  · rw [hsnd] at he
    rw [hserves']
    exact hqueue e he
  · rw [hserves'] at hd
    rw [hsnd, hcount]
    by_cases hdj : c = d ∧ k = j
    · rw [if_pos hdj, ← hdj.1, ← hdj.2, hown]
    · rw [if_neg hdj, hother d j hdj]
      exact h.count d hd j
  · rw [hserves'] at hd
    rw [hsnd]
    by_cases hdj : c = d ∧ k = j
    · obtain ⟨rfl, rfl⟩ := hdj
      rw [hown]
      cases hcur with
      | start hstate _ hy => exact ⟨fun _ => hy, fun _ => hstate⟩
      | finish hstate len _ hy => exact ⟨fun hs => absurd hs hstate, fun hs => by rw [hy] at hs; cases hs⟩
      | keep hstate hx hy => exact ⟨fun hs => absurd hs hstate, fun hs => absurd (hy ▸ hs) (hx _)⟩
    · have hold := h.sending d hd j
      rw [hother d j hdj]
      cases hcur with
      | start _ hx hy =>
        rw [hx] at hold
        rw [hy]
        refine ⟨fun hs => ?_, fun hs => ?_⟩
        · cases hold.mp hs
        · simp only [Option.some.injEq, Prod.mk.injEq] at hs
          exact absurd ⟨hs.1, hs.2.1⟩ hdj
      | finish _ len hx hy =>
        rw [hx] at hold
        rw [hy]
        refine ⟨fun hs => ?_, nofun⟩
        have heq := hold.mp hs
        simp only [Option.some.injEq, Prod.mk.injEq] at heq
        exact absurd ⟨heq.1, heq.2.1⟩ hdj
      | keep _ _ hy =>
        rw [hy]
        exact hold
  · rw [hsnd] at hp
    cases hcur with
    | start _ _ hy =>
      cases hy.symm.trans hp
      exact ⟨(hserves' _).trans hserves, by rw [hown]⟩
    | finish _ len _ hy => cases hy.symm.trans hp
    | keep _ hx hy =>
      rw [hy] at hp
      obtain ⟨hp1, hp2⟩ := h.current p hp
      refine ⟨(hserves' _).trans hp1, ?_⟩
      rw [hother p.1 p.2.1, hp2]
      rintro ⟨rfl, rfl⟩
      exact hx p.2.2 hp

/-- A send half depends on its side and on the channels that it serves. -/
theorem SendHalf.congr {s t : State} {n : LaneId} (h : SendHalf s n) (hsnd : (t.lane n).snd = (s.lane n).snd)
    (hserves : ∀ c, t.serves c .outbound n = s.serves c .outbound n)
    (hchan : ∀ c, s.serves c .outbound n = true → t.chan c = s.chan c) : SendHalf t n := by
  have hslot : ∀ c, s.serves c .outbound n = true → ∀ k, t.slot c k = s.slot c k := fun c hc k => by
    unfold State.slot
    rw [hchan c hc]
  refine ⟨hsnd ▸ h.shape, fun c hc => ?_, fun e he => ?_, fun c hc k => ?_, fun c hc k => ?_, fun p hp => ?_⟩
  · rw [hserves] at hc
    rw [hchan c hc]
    exact h.tracked c hc
  · rw [hsnd] at he
    rw [hserves]
    exact h.queued e he
  · rw [hserves] at hc
    rw [hsnd, hslot c hc]
    exact h.count c hc k
  · rw [hserves] at hc
    rw [hsnd, hslot c hc]
    exact h.sending c hc k
  · rw [hsnd] at hp
    obtain ⟨hp1, hp2⟩ := h.current p hp
    rw [hserves, hslot p.1 hp1]
    exact ⟨hp1, hp2⟩

/-! ### The operations of a send side -/

/-- The side by itself changes, and its queue and record stay. -/
theorem SendHalf.setSnd {s : State} {n : LaneId} {x : SendSide} (h : SendHalf s n) (hshape : SendShape x)
    (hqueue : x.queue = (s.lane n).snd.queue) (hcur : x.sending = (s.lane n).snd.sending) : SendStep s (s.setSnd n x) n :=
  ⟨h.kept (c := 0) ⟨fun _ => rfl, fun _ _ => rfl, rfl, id⟩ (fun _ _ => rfl) (by rw [State.setSnd_lane_same]) hshape hqueue hcur,
    .of_snd (fun _ => rfl) fun _ => rfl⟩

/-- The head entry's record starts (R110). -/
theorem SendHalf.startHead {s : State} {n : LaneId} (h : SendHalf s n) : SendStep s (s.startHead n) n := by
  by_cases hnone : (s.lane n).snd.queue = [] ∨ (s.lane n).snd.cur ≠ none ∨ (s.lane n).snd.strobe ≠ none
  · rw [State.startHead_none s n hnone]
    exact ⟨h, fun _ _ => rfl, rfl, fun _ => rfl, fun _ _ => rfl⟩
  · rw [not_or, not_or, not_not, not_not] at hnone
    obtain ⟨hqueue, hcur, hstrobe⟩ := hnone
    obtain ⟨e, rest, hcons⟩ := List.exists_cons_of_ne_nil hqueue
    have he : e ∈ (s.lane n).snd.queue := by rw [hcons]; exact List.mem_cons_self
    obtain ⟨hcommitted, hlt⟩ := h.queued_state he
    have hserves := h.queued e he
    have hrecord := (h.tracked _ hserves).slots e.slot hlt
    obtain ⟨_, hdir, _⟩ := (s.serves_iff ..).mp hserves
    have hlen : 1 ≤ (s.slot e.chan e.slot).len := by
      rcases hrecord.2.2.1 hdir with hfree | hlen
      · cases hcommitted.symm.trans hfree
      · exact hlen.2
    rw [State.startHead_eq s n e rest hcons hcur hstrobe]
    obtain ⟨r, hr⟩ : ∃ r : SlotRec, r = { s.slot e.chan e.slot with state := .sending } := ⟨_, rfl⟩
    obtain ⟨x, hx⟩ : ∃ x : SendSide, x = { (s.lane n).snd with
        queue := rest
        cur := some ⟨e.chan, e.slot, (s.slot e.chan e.slot).len, 0, 0, true⟩
        tx := []
        mover := if (s.lane n).snd.mover = .none ∧ 0 < (s.slot e.chan e.slot).len then .waiting else (s.lane n).snd.mover
        takeTimer := deadline s.now (s.lane n).takeLimit
        data := (s.chan e.chan).route.setWidth 8 } := ⟨_, rfl⟩
    have hchan : ∀ d, (s.started n e rest).chan d = (s.setSlot e.chan e.slot r).chan d := fun d => by
      rw [hr, State.started_eq, State.wakeQueue_eq]
      rfl
    have hlane : ∀ k, (s.started n e rest).lane k = (s.setSnd n x).lane k := fun k => by
      rw [hx, State.started_eq, State.wakeQueue_eq]
      rfl
    have hmove : SlotMove s (s.started n e rest) e.chan :=
      .of_setChan (ch := { s.chan e.chan with slots := (s.chan e.chan).slots.set e.slot r }) hchan rfl List.length_set id
    have hput : SlotPut s (s.started n e rest) e.chan e.slot r :=
      .of_setChan (ch := { s.chan e.chan with slots := (s.chan e.chan).slots.set e.slot r }) hchan rfl
    have hshape := h.shape.queued
    rw [hcons, List.length_cons] at hshape
    have hcount : ∀ d j, (if e.chan = d ∧ e.slot = j then 1 else 0) + entryCount rest d j =
        entryCount (s.lane n).snd.queue d j := fun d j => by
      rw [hcons, entryCount_cons, Nat.add_comm]
    refine ⟨h.put (x := x) hserves hmove hput ⟨?_, ?_, ?_, ?_⟩ hlt (by rw [hlane, State.setSnd_lane_same]) ?_
      (fun d hd => ?_) (fun d j => ?_) (.start ?_ (SendSide.sending_none hcur) ?_), .of_move hmove hserves hlane⟩
    · rw [hr]
      exact hrecord.1
    · rw [hr]
      exact nofun
    · rw [hr]
      exact fun _ => .inr ⟨.inr (.inl rfl), hlen⟩
    · rw [hdir]
      exact nofun
    · rw [hx]
      refine ⟨Nat.le_of_succ_le hshape, Nat.zero_le _, fun _ => Nat.zero_le _, fun q hq => ?_, nofun⟩
      cases hq
      exact ⟨hlen, rfl, Nat.zero_le _, fun _ => hlen, hstrobe, nofun⟩
    · rw [hx] at hd
      exact h.queued d (by rw [hcons]; exact List.mem_cons_of_mem e hd)
    · rw [hx, hr]
      change entryCount rest d j = _
      have hd := hcount d j
      by_cases hdj : e.chan = d ∧ e.slot = j
      · obtain ⟨rfl, rfl⟩ := hdj
        rw [h.count _ hserves, if_pos hcommitted, if_pos ⟨rfl, rfl⟩] at hd
        rw [if_pos ⟨rfl, rfl⟩, if_neg SlotState.noConfusion]
        omega
      · rw [if_neg hdj] at hd
        rw [if_neg hdj, ← hd, Nat.zero_add]
    · rw [hr]
    · rw [hx, hr]
      rfl

/-- The current record fails (R118, R119). -/
theorem SendHalf.failRecord {s : State} {n : LaneId} (h : SendHalf s n) {q : SendRecord} (hcur : (s.lane n).snd.cur = some q)
    (detail : BitVec 16) : SendStep s (s.failRecord n q detail) n := by
  have hsending := SendSide.sending_some hcur
  obtain ⟨hserves, hstate, hlen, hlt⟩ := h.current_state hsending
  have hrecord := (h.tracked _ hserves).slots q.slot hlt
  obtain ⟨_, hdir, _⟩ := (s.serves_iff ..).mp hserves
  obtain ⟨r, hr⟩ : ∃ r : SlotRec, r = { s.slot q.chan q.slot with state := .failed } := ⟨_, rfl⟩
  obtain ⟨x, hx⟩ : ∃ x : SendSide, x = (s.lane n).snd.abandon s.now := ⟨_, rfl⟩
  rw [State.failRecord_eq]
  obtain ⟨t, ht⟩ : ∃ t : State, t = s.sendFailed n q (s.lane n).snd.mover.endRecord detail := ⟨_, rfl⟩
  have hchan : ∀ d, t.chan d = (s.setChan q.chan { s.chan q.chan with
      slots := (s.chan q.chan).slots.set q.slot r, faults := (s.chan q.chan).faults + 1 }).chan d := fun d => by
    rw [hr, ht]
    rfl
  have hlane : ∀ k, t.lane k = (s.setSnd n x).lane k := fun k => by
    rw [hx, ht]
    rfl
  rw [← ht]
  have hmove : SlotMove s t q.chan := .of_setChan hchan rfl List.length_set id
  have hput : SlotPut s t q.chan q.slot r := .of_setChan hchan rfl
  refine ⟨h.put (x := x) hserves hmove hput ⟨?_, ?_, ?_, ?_⟩ hlt (by rw [hlane, State.setSnd_lane_same]) ?_ (fun d hd => ?_)
    (fun d j => ?_) (.finish ?_ q.len hsending ?_), .of_move hmove hserves hlane⟩
  · rw [hr]
    exact hrecord.1
  · rw [hr]
    exact nofun
  · rw [hr]
    refine fun _ => .inr ⟨.inr (.inr rfl), ?_⟩
    rw [hlen]
    exact (h.shape.record.1 q hcur).1
  · rw [hdir]
    exact nofun
  · rw [hx]
    exact h.shape.abandon s.now
  · rw [hx] at hd
    exact h.queued d hd
  · rw [hx, hr]
    change entryCount (s.lane n).snd.queue d j = _
    by_cases hdj : q.chan = d ∧ q.slot = j
    · obtain ⟨rfl, rfl⟩ := hdj
      rw [if_pos ⟨rfl, rfl⟩, h.count _ hserves, hstate]
      rfl
    · rw [if_neg hdj]
  · rw [hr]
    exact nofun
  · rw [hx]
    rfl

/-- A slot of a served channel becomes FREE (R68, R69, R117). -/
theorem SendHalf.freed {s t : State} {n : LaneId} {c : ChanId} {k : Nat} {x : SendSide} {ch : Channel} (h : SendHalf s n)
    (hserves : s.serves c .outbound n = true) (hchan : ∀ d, t.chan d = (s.setChan c ch).chan d)
    (hsetup : ch.setup = (s.chan c).setup) (hslots : ch.slots = (s.chan c).slots.set k SlotRec.free)
    (hptr : ch.fillPtr = (s.chan c).fillPtr) (hlane : ∀ m, t.lane m = (s.setSnd n x).lane m)
    (hk : k < (s.chan c).count.toNat) (hshape : SendShape x) (hqueue : ∀ e ∈ x.queue, e ∈ (s.lane n).snd.queue)
    (hcount : ∀ d j, entryCount x.queue d j = if c = d ∧ k = j then 0 else entryCount (s.lane n).snd.queue d j)
    (hcur : SendMove (s.lane n).snd x c k SlotRec.free) : SendStep s t n := by
  have hmove : SlotMove s t c :=
    .of_setChan hchan hsetup (by rw [hslots, List.length_set]) fun h => by rw [hptr]; exact h
  have hput : SlotPut s t c k SlotRec.free := .of_setChan hchan hslots
  exact ⟨h.put hserves hmove hput ⟨Nat.zero_le _, fun _ => rfl, fun _ => .inl rfl, fun _ => .inl rfl⟩ hk
    (by rw [hlane, State.setSnd_lane_same]) hshape (fun e he => h.queued e (hqueue e he)) hcount hcur,
    .of_move hmove hserves hlane⟩

/-- The record is complete, and its slot FREE (R117). -/
theorem SendHalf.sendDone {s : State} {n : LaneId} (h : SendHalf s n) {q : SendRecord} (hcur : (s.lane n).snd.cur = some q)
    (hlast : q.offered = q.len) : SendStep s (s.sendDone n q) n := by
  have hsending := SendSide.sending_some hcur
  obtain ⟨hserves, hstate, _, hlt⟩ := h.current_state hsending
  obtain ⟨_, hread, hle, hasking, _⟩ := h.shape.record.1 q hcur
  have htx : (s.lane n).snd.tx = [] := List.length_eq_zero_iff.mp (by omega)
  have hread' : ¬q.read < q.len := by omega
  refine h.freed (x := { (s.lane n).snd with cur := none, takeTimer := none, takePulse := none })
    (ch := { s.chan q.chan with
      slots := (s.chan q.chan).slots.set q.slot ⟨.free, 0, 0⟩, done := (s.chan q.chan).done + 1 })
    hserves (fun _ => rfl) rfl rfl rfl (fun _ => rfl) hlt ?_ (fun _ => id) (fun d j => ?_) (.finish nofun q.len hsending rfl)
  · exact .rest h.shape.queued rfl htx (fun hm => hread' (hasking (.inl hm))) fun hm => hread' (hasking (.inr hm))
  · by_cases hdj : q.chan = d ∧ q.slot = j
    · obtain ⟨rfl, rfl⟩ := hdj
      rw [if_pos ⟨rfl, rfl⟩]
      change entryCount (s.lane n).snd.queue q.chan q.slot = 0
      rw [h.count _ hserves, hstate]
      rfl
    · rw [if_neg hdj]

/-- A slot that is not SENDING is not the current record's. -/
theorem SendHalf.not_sending {s : State} {n : LaneId} (h : SendHalf s n) {c : ChanId} {k : Nat}
    (hstate : (s.slot c k).state ≠ .sending) (len : Nat) : (s.lane n).snd.sending ≠ some (c, k, len) :=
  fun hp => hstate (h.current_state hp).2.1

/-- A COMMITTED slot is withdrawn (R68). -/
theorem SendHalf.takeWithdraw {s : State} {c : ChanId} (h : SendHalf s (s.chan c).lane)
    (hserves : s.serves c .outbound (s.chan c).lane = true) {k : Nat} (hstate : (s.slot c k).state = .committed) :
    SendStep s (s.takeWithdraw c k) (s.chan c).lane := by
  have hlt : k < (s.chan c).count.toNat := (h.tracked c hserves).lt (by
    change (s.slot c k).state ≠ _
    rw [hstate]
    exact SlotState.noConfusion)
  refine h.freed (x := { (s.lane (s.chan c).lane).snd with
      queue := (s.lane (s.chan c).lane).snd.queue.filter fun e => !(e.chan == c && e.slot == k) })
    (ch := { s.chan c with slots := (s.chan c).slots.set k SlotRec.free })
    hserves (fun _ => rfl) rfl rfl rfl (fun _ => rfl) hlt ?_ (fun e he => (List.mem_filter.mp he).1)
    (fun d j => entryCount_withdrawn ..)
    (.keep nofun (h.not_sending (by rw [hstate]; exact SlotState.noConfusion)) rfl)
  exact ⟨(List.length_filter_le _ _).trans h.shape.queued, h.shape.buffered, h.shape.asking, h.shape.record⟩

/-- A FAILED slot is given up (R69). -/
theorem SendHalf.takeFailedFree {s : State} {n : LaneId} (h : SendHalf s n) {c : ChanId}
    (hserves : s.serves c .outbound n = true) {k : Nat} (hstate : (s.slot c k).state = .failed) :
    SendStep s (s.takeFailedFree c k) n := by
  have hlt : k < (s.chan c).count.toNat := (h.tracked c hserves).lt (by
    change (s.slot c k).state ≠ _
    rw [hstate]
    exact SlotState.noConfusion)
  refine h.freed (x := (s.lane n).snd) (ch := { s.chan c with slots := (s.chan c).slots.set k SlotRec.free })
    hserves (fun _ => rfl) rfl rfl rfl (fun m => by rw [State.setSnd_snd]; rfl) hlt h.shape (fun _ => id) (fun d j => ?_)
    (.keep nofun (h.not_sending (by rw [hstate]; exact SlotState.noConfusion)) rfl)
  by_cases hdj : c = d ∧ k = j
  · obtain ⟨rfl, rfl⟩ := hdj
    rw [if_pos ⟨rfl, rfl⟩, h.count _ hserves, hstate]
    rfl
  · rw [if_neg hdj]

/-- A slot that is FREE or FAILED is committed and its entry joins the queue, before the lane goes on (R66, R69, R107). -/
theorem SendHalf.committed {s : State} {n : LaneId} (h : SendHalf s n) {c : ChanId} (hserves : s.serves c .outbound n = true)
    {k len : Nat} (hk : k < (s.chan c).count.toNat) (hstate : (s.slot c k).state = .free ∨ (s.slot c k).state = .failed)
    (hpos : 1 ≤ len) (hcap : len ≤ (s.chan c).capacity) (hroom : (s.lane n).snd.queue.length < 16) (seq after : Byte) :
    SendStep s ((s.setChan c { s.chan c with
      slots := (s.chan c).slots.set k ⟨.committed, len, seq⟩, seqCtr := after }).setSnd n { (s.lane n).snd with
        queue := (s.lane n).snd.queue ++ [⟨c, k⟩] }) n := by
  obtain ⟨r, hr⟩ : ∃ r : SlotRec, r = ⟨.committed, len, seq⟩ := ⟨_, rfl⟩
  obtain ⟨x, hx⟩ : ∃ x : SendSide, x = { (s.lane n).snd with queue := (s.lane n).snd.queue ++ [⟨c, k⟩] } := ⟨_, rfl⟩
  obtain ⟨_, hdir, _⟩ := (s.serves_iff ..).mp hserves
  rw [← hr, ← hx]
  have hmove : SlotMove s ((s.setChan c { s.chan c with
      slots := (s.chan c).slots.set k r, seqCtr := after }).setSnd n x) c :=
    .of_setChan (fun _ => rfl) rfl List.length_set id
  have hput : SlotPut s ((s.setChan c { s.chan c with
      slots := (s.chan c).slots.set k r, seqCtr := after }).setSnd n x) c k r :=
    .of_setChan (ch := { s.chan c with slots := (s.chan c).slots.set k r, seqCtr := after }) (fun _ => rfl) rfl
  refine ⟨h.put (x := x) hserves hmove hput ⟨?_, ?_, ?_, ?_⟩ hk (by rw [State.setSnd_lane_same]) ?_ (fun e he => ?_)
    (fun d j => ?_) (.keep ?_ (h.not_sending ?_) ?_), .of_move hmove hserves fun _ => rfl⟩
  · rw [hr]
    exact hcap
  · rw [hr]
    exact nofun
  · rw [hr]
    exact fun _ => .inr ⟨.inl rfl, hpos⟩
  · rw [hdir]
    exact nofun
  · rw [hx]
    refine ⟨?_, h.shape.buffered, h.shape.asking, h.shape.record⟩
    rw [List.length_append]
    exact hroom
  · rw [hx] at he
    rcases List.mem_append.mp he with he | he
    · exact h.queued e he
    · rw [List.mem_singleton.mp he]
      exact hserves
  · rw [hx, hr]
    change entryCount ((s.lane n).snd.queue ++ [⟨c, k⟩]) d j = _
    rw [entryCount_append]
    by_cases hdj : c = d ∧ k = j
    · obtain ⟨rfl, rfl⟩ := hdj
      rw [if_pos ⟨rfl, rfl⟩, if_pos ⟨rfl, rfl⟩, h.count _ hserves, if_neg, if_pos rfl]
      rcases hstate with hs | hs <;> rw [hs] <;> exact SlotState.noConfusion
    · rw [if_neg hdj, if_neg hdj, Nat.add_zero]
  · rw [hr]
    exact nofun
  · rcases hstate with hs | hs <;> rw [hs] <;> exact SlotState.noConfusion
  · rw [hx]
    rfl

/-- A byte that is not the last is taken (R92, R116). -/
theorem SendHalf.takeNext {s : State} {n : LaneId} (h : SendHalf s n) {q : SendRecord} (hcur : (s.lane n).snd.cur = some q)
    (hmore : q.offered ≠ q.len) (timer : Option Nat) (x : SendSide) (hx : x = (s.lane n).snd.offerNext timer q) :
    SendStep s (s.setSnd n x) n := by
  obtain ⟨_, hread, hle, hasking, hstrobe, _⟩ := h.shape.record.1 q hcur
  obtain ⟨hqueue, hsending, _⟩ := (s.lane n).snd.offerNext_frame timer q
  subst hx
  refine h.setSnd ?_ hqueue (hsending.trans (SendSide.sending_some hcur).symm)
  exact .offerNext h.shape.queued h.shape.buffered (fun hm => ⟨h.shape.asking hm, hasking hm⟩) hread hle (by omega) hstrobe timer

/-- A read of the current record completes (R115). -/
theorem SendHalf.readDone {s : State} {n : LaneId} (h : SendHalf s n) {q : SendRecord} (hcur : (s.lane n).snd.cur = some q)
    (hbusy : (s.lane n).snd.mover = .busy) (data : Word) : SendStep s (s.readDone n q data) n := by
  obtain ⟨hpos, hread, hle, hasking, hstrobe, hstarved⟩ := h.shape.record.1 q hcur
  have hmore := hasking (.inr hbusy)
  have hroom := h.shape.asking (.inr hbusy)
  have hnext : q.nextCount ≤ 4 ∧ q.nextCount ≤ q.len - q.read := by
    unfold SendRecord.nextCount
    omega
  obtain ⟨hfour, hrest⟩ := hnext
  have hlength : ((s.lane n).snd.tx ++ lowBytes data q.nextCount).length = (s.lane n).snd.tx.length + q.nextCount := by
    rw [lowBytes_eq, List.length_append, wordBytes_length]
  have hsending := SendSide.sending_some hcur
  unfold State.readDone
  dsimp only
  split
  · rename_i hoff
    refine h.setSnd (.present ⟨h.shape.queued, ?_, ?_, fun r hr => ?_, nofun⟩) ?_ ?_
    · dsimp only
      omega
    · rintro (hm | hm) <;> cases hm
    · cases hr
      refine ⟨hpos, ?_, ?_, fun hm => (by rcases hm with hm | hm <;> cases hm), hstrobe, fun hf => ?_⟩
      · dsimp only
        omega
      · dsimp only
        omega
      · rw [hoff] at hf
        cases hf
    · rw [SendSide.present_frame]
    · rw [SendSide.present_frame]
      exact hsending.symm
  · rename_i hoff
    obtain ⟨_, hoffered⟩ := hstarved (Bool.not_eq_true _ ▸ hoff)
    obtain ⟨q', hq'⟩ : ∃ q' : SendRecord, q' = { q with read := q.read + q.nextCount } := ⟨_, rfl⟩
    obtain ⟨x, hx⟩ : ∃ x : SendSide, x = { (s.lane n).snd with
        tx := (s.lane n).snd.tx ++ lowBytes data q.nextCount, mover := .none, cur := some q' } := ⟨_, rfl⟩
    rw [← hq', ← hx]
    obtain ⟨hqueue, hsend, _⟩ := x.offerNext_frame (startLaneTimer s.now (s.lane n).takeLimit) q'
    have hlen : q'.len = q.len ∧ q'.read = q.read + q.nextCount ∧ q'.offered = q.offered := by rw [hq']; exact ⟨rfl, rfl, rfl⟩
    obtain ⟨hlen, hread', hoff'⟩ := hlen
    have htx : x.tx.length = (s.lane n).snd.tx.length + q.nextCount := by rw [hx]; exact hlength
    refine h.setSnd (.offerNext ?_ ?_ ?_ ?_ ?_ ?_ ?_ _) ?_ ?_
    · rw [hx]
      exact h.shape.queued
    · omega
    · rw [hx]
      rintro (hm | hm) <;> cases hm
    · omega
    · omega
    · omega
    · rw [hx]
      exact hstrobe
    · rw [hqueue, hx]
    · rw [hsend, hsending, hq']

/-- The mover has become NONE, and presents the record's next read (R120). -/
theorem SendHalf.moverFree {s : State} {n : LaneId} (h : SendHalf s n) :
    SendStep s (s.setSnd n { (s.lane n).snd with mover := .none }) n ∧
    SendStep s (s.setSnd n ({ (s.lane n).snd with mover := .none } : SendSide).present) n := by
  have hshape : SendShape { (s.lane n).snd with mover := .none } := by
    refine ⟨h.shape.queued, h.shape.buffered, fun hm => (by rcases hm with hm | hm <;> cases hm), fun r hr => ?_, fun hc => ?_⟩
    · obtain ⟨hpos, hread, hle, _, hrest⟩ := h.shape.record.1 r hr
      exact ⟨hpos, hread, hle, fun hm => (by rcases hm with hm | hm <;> cases hm), hrest⟩
    · exact ⟨(h.shape.record.2 hc).1, nofun, nofun⟩
  refine ⟨h.setSnd hshape rfl rfl, h.setSnd hshape.present ?_ ?_⟩
  · rw [SendSide.present_frame]
  · rw [SendSide.present_frame]
    rfl

/-- A side's strobe, timers and pulses are none of the record's, but that no strobe is given over one. -/
theorem SendHalf.setStrobe {s : State} {n : LaneId} (h : SendHalf s n) {x : SendSide}
    (hx : (s.lane n).snd = { x with takePulse := (s.lane n).snd.takePulse, strobe := (s.lane n).snd.strobe })
    (hstrobe : x.strobe = (s.lane n).snd.strobe ∨ x.strobe = none) : SendStep s (s.setSnd n x) n := by
  obtain ⟨hqueued, hbuffered, hasking, hrecord⟩ := h.shape
  have hqueue : (s.lane n).snd.queue = x.queue := by rw [hx]
  have htx : (s.lane n).snd.tx = x.tx := by rw [hx]
  have hmover : (s.lane n).snd.mover = x.mover := by rw [hx]
  have hcur : (s.lane n).snd.cur = x.cur := by rw [hx]
  unfold SendRecordLaw at hrecord
  rw [htx, hmover, hcur] at hrecord
  refine h.setSnd ⟨hqueue ▸ hqueued, htx ▸ hbuffered, by rw [← htx, ← hmover]; exact hasking, fun r hr => ?_, hrecord.2⟩
    hqueue.symm (by unfold SendSide.sending; rw [hcur])
  obtain ⟨hpos, hread, hle, hask, hnone, hrest⟩ := hrecord.1 r hr
  refine ⟨hpos, hread, hle, hask, ?_, hrest⟩
  rcases hstrobe with hs | hs
  · rw [hs, hnone]
  · exact hs

/-- A send half at the stop of its channels (R49, R121). -/
theorem SendHalf.stopped {s v : State} {n : LaneId} {sel : ChanId → Bool} {now : Nat} (h : SendHalf s n)
    (hserves : ∀ c, v.serves c .outbound n = (s.serves c .outbound n && !sel c))
    (hchan : ∀ c, v.serves c .outbound n = true → v.chan c = s.chan c)
    (hsnd : (v.lane n).snd = (s.lane n).snd.stopFor sel now) : SendHalf v n := by
  have hserved : ∀ c, v.serves c .outbound n = true ↔ s.serves c .outbound n = true ∧ sel c = false := fun c => by
    rw [hserves, Bool.and_eq_true, Bool.not_eq_true']
  have hslot : ∀ c, v.serves c .outbound n = true → ∀ k, v.slot c k = s.slot c k := fun c hc k => by
    unfold State.slot
    rw [hchan c hc]
  have hqueue : (v.lane n).snd.queue = (s.lane n).snd.queue.filter fun e => !sel e.chan := by
    rw [hsnd]
    unfold SendSide.stopFor
    split
    · split <;> rfl
    · rfl
  have hkept : SendShape { (s.lane n).snd with queue := (s.lane n).snd.queue.filter fun e => !sel e.chan } :=
    ⟨(List.length_filter_le _ _).trans h.shape.queued, h.shape.buffered, h.shape.asking, h.shape.record⟩
  have hrecord : SendShape (v.lane n).snd ∧ ((v.lane n).snd.sending = none ∧ (∀ p ∈ (s.lane n).snd.sending, sel p.1 = true) ∨
      (v.lane n).snd.sending = (s.lane n).snd.sending ∧ ∀ p ∈ (s.lane n).snd.sending, sel p.1 = false) := by
    rw [hsnd]
    cases hcur : (s.lane n).snd.cur with
    | none =>
      rw [SendSide.stopFor_other (fun q hq => by rw [hcur] at hq; cases hq)]
      exact ⟨hkept, .inr ⟨rfl, by rw [SendSide.sending_none hcur]; exact nofun⟩⟩
    | some q =>
      rw [SendSide.sending_some hcur]
      cases hsel : sel q.chan with
      | true =>
        rw [SendSide.stopFor_current hcur hsel]
        exact ⟨hkept.abandon now, .inl ⟨rfl, fun p hp => by cases hp; exact hsel⟩⟩
      | false =>
        rw [SendSide.stopFor_other (fun r hr => by cases hcur.symm.trans hr; exact hsel)]
        exact ⟨hkept, .inr ⟨SendSide.sending_some hcur, fun p hp => by cases hp; exact hsel⟩⟩
  obtain ⟨hshape, hcases⟩ := hrecord
  refine ⟨hshape, fun c hc => ?_, fun e he => ?_, fun c hc k => ?_, fun c hc k => ?_, fun p hp => ?_⟩
  · rw [hchan c hc]
    exact h.tracked c ((hserved c).mp hc).1
  · rw [hqueue, List.mem_filter, Bool.not_eq_true'] at he
    exact (hserved _).mpr ⟨h.queued e he.1, he.2⟩
  · obtain ⟨hs, hsel⟩ := (hserved c).mp hc
    rw [hqueue, entryCount_stopped _ _ hsel, hslot c hc]
    exact h.count c hs k
  · obtain ⟨hs, hsel⟩ := (hserved c).mp hc
    rw [hslot c hc, h.sending c hs k]
    rcases hcases with ⟨hnone, hall⟩ | ⟨hsame, _⟩
    · rw [hnone]
      refine ⟨fun hp => ?_, nofun⟩
      rw [hall _ hp] at hsel
      cases hsel
    · rw [hsame]
  · rcases hcases with ⟨hnone, _⟩ | ⟨hsame, hall⟩
    · rw [hnone] at hp
      cases hp
    · rw [hsame] at hp
      obtain ⟨hp1, hp2⟩ := h.current p hp
      have hv := (hserved p.1).mpr ⟨hp1, hall p hp⟩
      exact ⟨hv, by rw [hslot p.1 hv, hp2]⟩

/-! ### The sides of a lane that no channel serves (R89, R105, R124) -/

theorem SendHalf.of_reset {s : State} {n : LaneId} (hsnd : (s.lane n).snd = SendSide.reset)
    (hnone : ∀ c, s.serves c .outbound n = false) : SendHalf s n := by
  have hfalse : ∀ c, ¬s.serves c .outbound n = true := fun c => by rw [hnone]; exact Bool.false_ne_true
  refine ⟨?_, fun c hc => absurd hc (hfalse c), fun e he => ?_, fun c hc => absurd hc (hfalse c),
    fun c hc => absurd hc (hfalse c), fun p hp => ?_⟩
  · rw [hsnd]
    exact .rest (Nat.zero_le _) rfl rfl nofun nofun
  · rw [hsnd] at he
    cases he
  · rw [hsnd] at hp
    cases hp

theorem RecvHalf.of_reset {s : State} {n : LaneId} {timer : Option Nat}
    (hrcv : (s.lane n).rcv = { RecvSide.reset with byteTimer := timer })
    (hnone : ∀ c, s.serves c .inbound n = false) : RecvHalf s n := by
  have hfalse : ∀ c, ¬s.serves c .inbound n = true := fun c => by rw [hnone]; exact Bool.false_ne_true
  refine ⟨?_, fun c hc => absurd hc (hfalse c), fun c hc => absurd hc (hfalse c), fun p hp => ?_, fun c hc => ?_⟩
  · rw [hrcv]
    exact ⟨Nat.zero_le _, Nat.zero_le _, nofun, nofun, nofun, fun _ _ => ⟨rfl, nofun, nofun⟩⟩
  · rw [hrcv] at hp
    cases hp
  · rw [hrcv] at hc
    cases hc

end Sys2Proof.Machine
end

section
/-! SUPPORT. The laws of the part taken apart: those of one lane with the channels that it serves, those of the blocks together,
and those of the host port, the memory port and the guard; and what each of them rests on. -/

namespace Sys2Proof.Machine

/-! ### One lane -/

/-- What a lane's mode and turn allow, but for its partner (R87, R101, R103). -/
structure LaneModes (l : Lane) : Prop where
  unturned : l.mode ≠ .duplex → l.turn.turn = .idle
  turned : l.mode = .duplex → (l.turn.turn = .out ↔ (l.snd.cur.isSome = true ∨ l.snd.strobe.isSome = true))
  silent : l.mode = .mirror ∨ l.mode = .receive → l.snd = SendSide.reset
  deaf : l.mode = .mirror ∨ l.mode = .send → l.rcv = RecvSide.reset

/-- The lane's receive side rests (R125). -/
def LaneRests (l : Lane) : Prop := l.rcv.consumes = true → l.rcv.rx = []

/-- The two sides of lane n with the slots of the channels that it serves. -/
structure LaneHalves (s : State) (n : LaneId) : Prop where
  recv : RecvHalf s n
  send : SendHalf s n

/-- The laws of lane n. -/
structure LaneLaw (s : State) (n : LaneId) : Prop extends LaneHalves s n where
  rest : LaneRests (s.lane n)
  modes : LaneModes (s.lane n)

theorem State.serves_congr {s t : State} {c : ChanId} (h : t.chan c = s.chan c) (d : Direction) (n : LaneId) :
    t.serves c d n = s.serves c d n := by
  unfold State.serves
  rw [h]

/-- A channel has one direction. -/
theorem State.serves_dir {s : State} {c : ChanId} {d e : Direction} {n k : LaneId} (h : s.serves c d n = true)
    (hne : e ≠ d) : s.serves c e k = false := by
  refine Bool.eq_false_iff.mpr fun he => hne ?_
  rw [← ((s.serves_iff ..).mp h).2.1, ← ((s.serves_iff ..).mp he).2.1]

/-- The laws of a lane depend on the lane and on the channels that it serves. -/
theorem LaneLaw.congr {s t : State} {n : LaneId} (h : LaneLaw s n) (hlane : t.lane n = s.lane n)
    (hserves : ∀ c d, t.serves c d n = s.serves c d n)
    (hchan : ∀ c d, s.serves c d n = true → t.chan c = s.chan c) : LaneLaw t n where
  recv := h.recv.congr (by rw [hlane]) (fun c => hserves c _) fun c hc => hchan c _ hc
  send := h.send.congr (by rw [hlane]) (fun c => hserves c _) fun c hc => hchan c _ hc
  rest := by rw [hlane]; exact h.rest
  modes := by rw [hlane]; exact h.modes

/-! ### Operations of one lane -/

/-- What an operation of lane n leaves as it is. -/
structure LaneFrame (s t : State) (n : LaneId) : Prop where
  lane : ∀ k, k ≠ n → t.lane k = s.lane k
  mode : (t.lane n).mode = (s.lane n).mode
  setup : ∀ c, (t.chan c).setup = (s.chan c).setup
  chan : ∀ c, (∀ d, s.serves c d n = false) → t.chan c = s.chan c

theorem LaneFrame.refl (s : State) (n : LaneId) : LaneFrame s s n := ⟨fun _ _ => rfl, rfl, fun _ => rfl, fun _ _ => rfl⟩

theorem LaneFrame.trans {s t u : State} {n : LaneId} (h : LaneFrame s t n) (h2 : LaneFrame t u n) : LaneFrame s u n where
  lane k hk := (h2.lane k hk).trans (h.lane k hk)
  mode := h2.mode.trans h.mode
  setup c := (h2.setup c).trans (h.setup c)
  chan c hc := (h2.chan c fun d => (serves_same (h.setup c) ..).trans (hc d)).trans (h.chan c hc)

/-- An operation of lane n keeps both halves of its laws and everything else. -/
structure LaneStep (s t : State) (n : LaneId) : Prop extends LaneHalves t n, LaneFrame s t n

theorem LaneStep.refl {s : State} {n : LaneId} (h : LaneHalves s n) : LaneStep s s n := ⟨h, .refl s n⟩

theorem LaneStep.trans {s t u : State} {n : LaneId} (h : LaneStep s t n) (h2 : LaneStep t u n) : LaneStep s u n :=
  ⟨h2.toLaneHalves, h.toLaneFrame.trans h2.toLaneFrame⟩

theorem LaneHalves.recvStep {s t : State} {n : LaneId} (h : LaneHalves s n) (hstep : RecvStep s t n) : LaneStep s t n := by
  obtain ⟨hhalf, hframe⟩ := hstep
  refine ⟨⟨hhalf, h.send.congr (by rw [hframe.own]) (fun c => serves_same (hframe.setup c) ..) fun c hc => ?_⟩, hframe.lane,
    by rw [hframe.own], hframe.setup, fun c hc => hframe.chan c (hc _)⟩
  exact hframe.chan c (State.serves_dir hc nofun)

theorem LaneHalves.sendStep {s t : State} {n : LaneId} (h : LaneHalves s n) (hstep : SendStep s t n) : LaneStep s t n := by
  obtain ⟨hhalf, hframe⟩ := hstep
  refine ⟨⟨h.recv.congr (by rw [hframe.own]) (fun c => serves_same (hframe.setup c) ..) fun c hc => ?_, hhalf⟩, hframe.lane,
    by rw [hframe.own], hframe.setup, fun c hc => hframe.chan c (hc _)⟩
  exact hframe.chan c (State.serves_dir hc nofun)

/-- The lane's turn changes, with what concerns the engine's side of it. -/
theorem LaneHalves.setLane {s : State} {n : LaneId} (h : LaneHalves s n) {l : Lane} (hmode : l.mode = (s.lane n).mode)
    (hsnd : l.snd = (s.lane n).snd) (hrx : l.rcv.rx.length ≤ 16)
    (hrcv : (s.lane n).rcv = { l.rcv with
      putState := (s.lane n).rcv.putState
      rx := (s.lane n).rcv.rx
      byteTimer := (s.lane n).rcv.byteTimer
      markPulse := (s.lane n).rcv.markPulse }) : LaneStep s (s.setLane n l) n := by
  have hhalf := (h.recv.setPut hrx hrcv).1
  refine ⟨⟨hhalf.congr ?_ (fun _ => rfl) fun _ _ => rfl, h.send.congr ?_ (fun _ => rfl) fun _ _ => rfl⟩,
    fun k hk => State.lane_setLane_of_ne _ hk _, by rw [State.lane_setLane_same, hmode], fun _ => rfl, fun _ _ => rfl⟩
  · rw [State.lane_setLane_same, State.setRcv_lane_same]
  · rw [State.lane_setLane_same, hsnd]

/-- What a lane's mode allows stands over a change of its receive side. -/
theorem LaneModes.setRcv {l : Lane} (h : LaneModes l) {x : RecvSide}
    (hx : l.mode = .mirror ∨ l.mode = .send → x = RecvSide.reset) : LaneModes { l with rcv := x } :=
  ⟨h.unturned, h.turned, h.silent, hx⟩

/-- What a lane's mode allows stands over a change of its send side that keeps whether it works. -/
theorem LaneModes.setSnd {l : Lane} (h : LaneModes l) {x : SendSide}
    (hx : l.mode = .mirror ∨ l.mode = .receive → x = SendSide.reset)
    (hturn : (x.cur.isSome = true ∨ x.strobe.isSome = true) ↔ (l.snd.cur.isSome = true ∨ l.snd.strobe.isSome = true)) :
    LaneModes { l with snd := x } :=
  ⟨h.unturned, fun hm => (h.turned hm).trans hturn.symm, hx, h.deaf⟩

/-- A lane with a receive side has its mode. -/
theorem LaneModes.hears {l : Lane} (h : LaneModes l) (hne : l.rcv ≠ RecvSide.reset) :
    ¬(l.mode = .mirror ∨ l.mode = .send) := fun hm => hne (h.deaf hm)

theorem LaneModes.speaks {l : Lane} (h : LaneModes l) (hne : l.snd ≠ SendSide.reset) :
    ¬(l.mode = .mirror ∨ l.mode = .receive) := fun hm => hne (h.silent hm)

/-! ### The blocks together -/

/-- The laws of the blocks: all but those of the host port, the memory port and the guard. -/
structure Core (s : State) : Prop where
  ring : RingLaw s
  place : RingPlaceLaw s
  channels : ChannelLaw s
  partner : ∀ n, (s.lane n).mode = .duplex → oddLane n = false ∧ (s.lane (mate n)).mode = .mirror
  empty : ∀ c, (s.chan c).state ≠ .running → (s.chan c).slots = []
  lanes : ∀ n, LaneLaw s n

/-- The laws give each lane's send half. -/
theorem Inv.sendHalf {s : State} (h : Inv s) (n : LaneId) : SendHalf s n := by
  obtain ⟨hqueued, hbuffered, hasking, _⟩ := h.buffers n
  obtain ⟨hslots, hsides⟩ := h.sends
  obtain ⟨hentries, hcurrent⟩ := hsides n
  have htracked : ∀ c, s.serves c .outbound n = true → (s.chan c).Tracked := fun c hc =>
    (Channel.tracked_iff _).mpr ((h.tracker c).2 ((s.serves_iff ..).mp hc).1)
  refine ⟨⟨hqueued, hbuffered, hasking, (h.records n).1⟩, htracked, fun e he => (hentries e he).1, fun c hc k => ?_,
    fun c hc k => ⟨fun hk => ?_, fun hp => ?_⟩, fun p hp => ?_⟩
  · by_cases hk : k < (s.chan c).count.toNat
    · exact (hslots c n hc k hk).1
    · have hfree : (s.slot c k).state ≠ .committed := fun hcommitted => hk ((htracked c hc).lt (by
        change (s.slot c k).state ≠ _
        rw [hcommitted]
        exact SlotState.noConfusion))
      rw [if_neg hfree]
      refine Nat.eq_zero_of_not_pos fun hpos => ?_
      obtain ⟨e, he⟩ := List.exists_mem_of_length_pos hpos
      rw [List.mem_filter, Bool.and_eq_true, beq_iff_eq, beq_iff_eq] at he
      obtain ⟨hmem, rfl, rfl⟩ := he
      exact hfree (hentries e hmem).2
  · have hlt := (htracked c hc).lt (k := k) (by
      change (s.slot c k).state ≠ _
      rw [hk]
      exact SlotState.noConfusion)
    have hany := (hslots c n hc k hlt).2 hk
    rw [Option.any_eq_true] at hany
    obtain ⟨q, hq, hqk⟩ := hany
    rw [Bool.and_eq_true, beq_iff_eq, beq_iff_eq] at hqk
    obtain ⟨rfl, rfl⟩ := hqk
    rw [SendSide.sending_some hq, (hcurrent q hq).2.2]
  · obtain ⟨q, hq, heq⟩ := Option.map_eq_some_iff.mp hp
    simp only [Prod.mk.injEq] at heq
    obtain ⟨rfl, rfl, _⟩ := heq
    exact (hcurrent q hq).2.1
  · obtain ⟨q, hq, rfl⟩ := Option.map_eq_some_iff.mp hp
    exact ⟨(hcurrent q hq).1, (hcurrent q hq).2.2⟩

theorem Inv.laneLaw {s : State} (h : Inv s) (n : LaneId) : LaneLaw s n where
  recv := h.recvHalf n
  send := h.sendHalf n
  rest := h.rests n
  modes := by
    obtain ⟨_, hunturned, hturned, hsilent, hdeaf⟩ := h.modes n
    exact ⟨hunturned, hturned, hsilent, hdeaf⟩

theorem Inv.core {s : State} (h : Inv s) : Core s where
  ring := h.ring
  place := h.ringPlace
  channels := h.channels
  partner n := (h.modes n).1
  empty c := (h.tracker c).1
  lanes := h.laneLaw

/-- The laws of the blocks, with those of the host port, the memory port and the guard, are all. -/
theorem Core.inv {s : State} (h : Core s) (hport : PortLaw s) (hguard : GuardLaw s) (hclasses : ClassLaw s)
    (hinactive : InactiveLaw s) : Inv s where
  ring := h.ring
  buffers n := by
    obtain ⟨⟨hrecv, hsend⟩, _, _⟩ := h.lanes n
    exact ⟨hsend.shape.queued, hsend.shape.buffered, hsend.shape.asking, hrecv.shape.buffered, hrecv.shape.gathered,
      hrecv.shape.asking⟩
  port := hport
  records n := ⟨(h.lanes n).send.shape.record, (h.lanes n).recv.shape.record⟩
  guard := hguard
  modes n := by
    obtain ⟨hunturned, hturned, hsilent, hdeaf⟩ := (h.lanes n).modes
    exact ⟨h.partner n, hunturned, hturned, hsilent, hdeaf⟩
  channels := h.channels
  ringPlace := h.place
  tracker c := by
    refine ⟨h.empty c, fun hrun => (Channel.tracked_iff _).mp ?_⟩
    cases hdir : (s.chan c).dir with
    | outbound => exact (h.lanes _).send.tracked c ((s.serves_iff ..).mpr ⟨hrun, hdir, rfl⟩)
    | inbound => exact (h.lanes _).recv.tracked c ((s.serves_iff ..).mpr ⟨hrun, hdir, rfl⟩)
  classes := hclasses
  sends := by
    refine ⟨fun c n hc k _ => ⟨(h.lanes n).send.count c hc k, fun hk => ?_⟩, fun n => ⟨fun e he => ?_, fun q hq => ?_⟩⟩
    · obtain ⟨q, hq, heq⟩ := Option.map_eq_some_iff.mp (((h.lanes n).send.sending c hc k).mp hk)
      simp only [Prod.mk.injEq] at heq
      rw [hq, Option.any_some, heq.1, heq.2.1, beq_self_eq_true, beq_self_eq_true]
      rfl
    · exact ⟨(h.lanes n).send.queued e he, ((h.lanes n).send.queued_state he).1⟩
    · obtain ⟨hserves, hstate, hlen, _⟩ := (h.lanes n).send.current_state (SendSide.sending_some hq)
      exact ⟨hserves, hstate, hlen⟩
  fills := ⟨fun c n hc k _ => (h.lanes n).recv.filling c hc k, fun n => (h.lanes n).recv.record⟩
  rests n := (h.lanes n).rest
  inactive := hinactive

/-! ### What the laws of the blocks rest on -/

/-- What a channel's setup says (R38). -/
theorem setup_eq {ch ch' : Channel} (h : ch'.setup = ch.setup) : ch'.guard = ch.guard ∧ ch'.base = ch.base ∧
    ch'.route = ch.route ∧ ch'.size = ch.size ∧ ch'.extent = ch.extent := by
  obtain ⟨_, _, _, hcount, hcode⟩ := setup_same h
  have hguard := congrArg Channel.guard h
  have hbase := congrArg Channel.base h
  have hbase' : ch'.base = ch.base := hbase
  have hroute := congrArg Channel.route h
  have hsize : ch'.size = ch.size := by
    unfold Channel.size
    rw [hcode]
  refine ⟨hguard, hbase', hroute, hsize, ?_⟩
  unfold Channel.extent
  rw [hbase', hcount, hsize]

/-- The law of the channels speaks of their setup, of the modes, of the device block and of the setup area. -/
theorem ChannelLaw.congr {s t : State} (h : ChannelLaw s) (hsetup : ∀ c, (t.chan c).setup = (s.chan c).setup)
    (hmode : ∀ n, (t.lane n).mode = (s.lane n).mode) (hactive : t.dev.active = s.dev.active)
    (hsize : t.dev.ringSize = s.dev.ringSize) (hbase : t.dev.ringBase = s.dev.ringBase) (hsbase : t.sbase = s.sbase) :
    ChannelLaw t := by
  have harea : t.setupExtent = s.setupExtent := by
    unfold State.setupExtent State.setupBase
    rw [hsbase]
  intro c hc
  obtain ⟨hstate, hdir, hlane, hcount, hcode⟩ := setup_same (hsetup c)
  obtain ⟨hguard, hcbase, hroute, hcsize, hextent⟩ := setup_eq (hsetup c)
  have hlaw := h c (hstate ▸ hc)
  rw [hactive, hguard, hcode, hcount, hcbase, hcsize, hextent, harea, hsize, hbase, hmode, hlane, hdir]
  obtain ⟨h1, h2, h3, h4, h5, h6, h7, h8, h9, h10, hothers⟩ := hlaw
  refine ⟨h1, h2, h3, h4, h5, h6, h7, h8, h9, h10, fun d hd hrun => ?_⟩
  obtain ⟨hstate', hdir', hlane', _⟩ := setup_same (hsetup d)
  obtain ⟨_, _, hroute', _, hextent'⟩ := setup_eq (hsetup d)
  rw [hextent', hlane', hdir', hroute', hroute]
  exact hothers d hd (hstate' ▸ hrun)

theorem RingPlaceLaw.congr {s t : State} (h : RingPlaceLaw s) (hsize : t.dev.ringSize = s.dev.ringSize)
    (hbase : t.dev.ringBase = s.dev.ringBase) (hsbase : t.sbase = s.sbase) : RingPlaceLaw t := by
  have harea : t.setupExtent = s.setupExtent := by
    unfold State.setupExtent State.setupBase
    rw [hsbase]
  unfold RingPlaceLaw
  rw [hsize, hbase, harea]
  exact h

/-- What keeps the device block, the setup of the channels, the modes and the law of every lane keeps the laws of the blocks. -/
theorem Core.kept {s t : State} (h : Core s) (hring : RingLaw t) (hdev : t.dev = s.dev) (hsbase : t.sbase = s.sbase)
    (hsetup : ∀ c, (t.chan c).setup = (s.chan c).setup) (hmode : ∀ n, (t.lane n).mode = (s.lane n).mode)
    (hslots : ∀ c, (s.chan c).state ≠ .running → (t.chan c).slots = (s.chan c).slots) (hlanes : ∀ n, LaneLaw t n) : Core t where
  ring := hring
  place := h.place.congr (by rw [hdev]) (by rw [hdev]) hsbase
  channels := h.channels.congr hsetup hmode (by rw [hdev]) (by rw [hdev]) (by rw [hdev]) hsbase
  partner n hn := by
    rw [hmode] at hn ⊢
    exact h.partner n hn
  empty c hc := by
    obtain ⟨hstate, _⟩ := setup_same (hsetup c)
    rw [hstate] at hc
    rw [hslots c hc]
    exact h.empty c hc
  lanes := hlanes

/-- An event of the lanes that keeps the law of every lane keeps the laws of the blocks. -/
theorem Core.laneEvent {s t : State} (h : Core s) (hev : LaneEvent s t)
    (hslots : ∀ c, (s.chan c).state ≠ .running → (t.chan c).slots = (s.chan c).slots) (hlanes : ∀ n, LaneLaw t n) : Core t :=
  h.kept (hev.ring h.ring) hev.dev hev.sbase hev.setup hev.mode hslots hlanes

/-- A channel that is not RUNNING serves no lane. -/
theorem State.serves_of_not_running {s : State} {c : ChanId} (h : (s.chan c).state ≠ .running) (d : Direction) (n : LaneId) :
    s.serves c d n = false := Bool.eq_false_iff.mpr fun hs => h ((s.serves_iff ..).mp hs).1

/-- What keeps the notice unit's law, the device block and the frame of lane n keeps the laws of the blocks when the lane keeps
its own. -/
theorem Core.framed {s t : State} {n : LaneId} (h : Core s) (hring : RingLaw t) (hdev : t.dev = s.dev) (hsbase : t.sbase = s.sbase)
    (hframe : LaneFrame s t n) (hlaw : LaneLaw t n) : Core t := by
  refine h.kept hring hdev hsbase hframe.setup (fun k => ?_)
    (fun c hc => by rw [hframe.chan c fun d => State.serves_of_not_running hc d n]) fun k => ?_
  · by_cases hk : k = n
    · exact hk ▸ hframe.mode
    · rw [hframe.lane k hk]
  · by_cases hk : k = n
    · exact hk ▸ hlaw
    · exact (h.lanes k).congr (hframe.lane k hk) (fun c d => serves_same (hframe.setup c) ..) fun c d hc =>
        hframe.chan c fun e => Bool.eq_false_iff.mpr fun he =>
          hk (((s.serves_iff ..).mp hc).2.2.symm.trans ((s.serves_iff ..).mp he).2.2)

/-- An operation of lane n keeps the laws of the blocks when the lane keeps its own. -/
theorem Core.laneStep {s t : State} {n : LaneId} (h : Core s) (hev : LaneEvent s t) (hframe : LaneFrame s t n)
    (hlaw : LaneLaw t n) : Core t := h.framed (hev.ring h.ring) hev.dev hev.sbase hframe hlaw

end Sys2Proof.Machine
end

section
/-! SUPPORT. The laws of the host port, the memory port and the guard over an event of the lanes, and what the turn arbiter and the
starts of a lane keep of its laws. -/

namespace Sys2Proof.Machine

/-! ### The ports and the guard -/

theorem Mover.inCycle_iff (m : Mover) : m.inCycle = true ↔ m = .busy ∨ m = .orphaned := by cases m <;> decide

theorem WriterState.inCycle_iff (w : WriterState) : w.inCycle = true ↔ w = .word0Writing ∨ w = .word1Writing := by
  cases w <;> decide

/-- R146, R150 in terms of who has a cycle in progress. -/
theorem portLaw_iff (s : State) : PortLaw s ↔
    (s.portOwner = some .host ↔ s.host.port.inCycle = true) ∧
    (s.portOwner = some .notice ↔ s.nu.writer.inCycle = true) ∧
    ∀ n, (s.portOwner = some (.send n) ↔ (s.lane n).snd.mover.inCycle = true) ∧
      (s.portOwner = some (.recv n) ↔ (s.lane n).rcv.mover.inCycle = true) := by
  unfold PortLaw
  simp only [Mover.inCycle_iff, WriterState.inCycle_iff]

theorem LaneEvent.portLaw {s t : State} (hev : LaneEvent s t) (h : PortLaw s) : PortLaw t := by
  rw [portLaw_iff] at h ⊢
  have howner : t.portOwner = s.portOwner := by
    unfold State.portOwner
    rw [hev.port]
  rw [howner, hev.cycle, hev.writing]
  refine ⟨h.1, h.2.1, fun n => ?_⟩
  rw [hev.sndCycle, hev.rcvCycle]
  exact h.2.2 n

theorem LaneEvent.guardLaw {s t : State} (hev : LaneEvent s t) (h : GuardLaw s) : GuardLaw t := by
  obtain ⟨htimer, hfor, hheld⟩ := h
  unfold GuardLaw
  rw [hev.guard, hev.asked]
  exact ⟨htimer, hfor, fun ht => hheld (hev.held ht)⟩

/-- What class an access has depends on the straps and on the setup of the channels (R2). -/
theorem State.classify_congr {s t : State} (hbypass : t.bypass = s.bypass) (hsbase : t.sbase = s.sbase)
    (hsetup : ∀ c, (t.chan c).setup = (s.chan c).setup) (a : Nat) : t.classify a = s.classify a := by
  have harea : t.setupBase = s.setupBase ∧ t.setupExtent = s.setupExtent := by
    unfold State.setupExtent State.setupBase
    rw [hsbase]
    exact ⟨rfl, rfl⟩
  have howner : t.owner a = s.owner a := by
    unfold State.owner
    congr 1
    funext c
    obtain ⟨hstate, _⟩ := setup_same (hsetup c)
    obtain ⟨_, _, _, _, hextent⟩ := setup_eq (hsetup c)
    unfold Channel.running
    rw [hstate, hextent]
  unfold State.classify
  rw [hbypass, harea.1, harea.2, howner]
  split
  · rfl
  · split
    · rfl
    · split
      · rename_i c _
        dsimp only
        obtain ⟨_, hbase, _, hsize, _⟩ := setup_eq (hsetup c)
        rw [hbase, hsize]
      · rfl

theorem LaneEvent.classLaw {s t : State} (hev : LaneEvent s t) (h : ClassLaw s) : ClassLaw t := by
  intro r hr
  rw [hev.asked] at hr
  unfold ClassStands
  rw [hev.resetn, State.classify_congr hev.bypass hev.sbase hev.setup]
  exact h r hr

/-- The part is neither in reset nor in bypass (R16, R18). -/
structure State.Active (s : State) : Prop where
  resetn : s.resetn = true
  bypass : s.bypass = false

theorem State.Active.inactiveLaw {s : State} (h : s.Active) : InactiveLaw s := by
  refine ⟨fun hi => ?_, fun hi => ?_⟩
  · rw [h.resetn, h.bypass] at hi
    rcases hi with hi | hi <;> cases hi
  · rw [h.resetn] at hi
    cases hi

theorem SameOutside.active {s t : State} (h : SameOutside s t) (hs : s.Active) : t.Active :=
  ⟨h.resetn.trans hs.resetn, h.bypass.trans hs.bypass⟩

/-- While the part is not active every lane is in MIRROR (R16, R18). -/
theorem Inv.active_of_mode {s : State} (h : Inv s) {n : LaneId} (hmode : (s.lane n).mode ≠ .mirror) : s.Active := by
  by_contra hne
  have hi : s.resetn = false ∨ s.bypass = true := by
    by_contra hh
    rw [not_or, Bool.not_eq_false, Bool.not_eq_true] at hh
    exact hne ⟨hh.1, hh.2⟩
  obtain ⟨_, _, _, _, hlane⟩ := h.inactive.1 hi
  have hm := congrArg Lane.mode (hlane n).1
  exact hmode hm

/-- An event of the lanes that keeps the laws of the blocks keeps them all. -/
theorem LaneEvent.inv {s t : State} (hev : LaneEvent s t) (h : Inv s) (hactive : s.Active) (hcore : Core t) : Inv t :=
  hcore.inv (hev.portLaw h.port) (hev.guardLaw h.guard) (hev.classLaw h.classes)
    (hev.toSameOutside.active hactive).inactiveLaw

/-- An operation of lane n and everything it makes the lane do keeps the laws when the lane keeps its own. -/
theorem Inv.laneStep {s t : State} {n : LaneId} (h : Inv s) (hmode : (s.lane n).mode ≠ .mirror) (hev : LaneEvent s t)
    (hframe : LaneFrame s t n) (hlaw : LaneLaw t n) : Inv t :=
  hev.inv h (h.active_of_mode hmode) (h.core.laneStep hev hframe hlaw)

/-- An operation of lane n, with everything that it makes the lane do, keeps the lane's laws and everything else. -/
structure LaneDone (s t : State) (n : LaneId) : Prop extends LaneStep s t n where
  rest : LaneRests (t.lane n)
  modes : LaneModes (t.lane n)

theorem LaneStep.done {s t u : State} {n : LaneId} (h : LaneStep s t n) (h2 : LaneDone t u n) : LaneDone s u n :=
  ⟨h.trans h2.toLaneStep, h2.rest, h2.modes⟩

theorem LaneDone.law {s t : State} {n : LaneId} (h : LaneDone s t n) : LaneLaw t n := ⟨h.toLaneHalves, h.rest, h.modes⟩

theorem LaneLaw.unchanged {s : State} {n : LaneId} (h : LaneLaw s n) : LaneDone s s n := ⟨.refl h.toLaneHalves, h.rest, h.modes⟩

theorem Inv.laneDone {s t : State} {n : LaneId} (h : Inv s) (hmode : (s.lane n).mode ≠ .mirror) (hev : LaneEvent s t)
    (hdone : LaneDone s t n) : Inv t := h.laneStep hmode hev hdone.toLaneFrame hdone.law

/-- Keeping what a decision was among changes no law. -/
theorem LaneDone.noting {s t : State} {n : LaneId} (h : LaneDone s t n) (u : State) : LaneDone s (u.noting t) n := by
  have hlaw : LaneLaw (u.noting t) n :=
    h.law.congr (by simp) (fun c d => State.serves_congr (by simp) d n) fun _ _ _ => by simp
  refine ⟨⟨hlaw.toLaneHalves, fun k hk => ?_, ?_, fun c => ?_, fun c hc => ?_⟩, hlaw.rest, hlaw.modes⟩
  · rw [State.noting_lane]
    exact h.lane k hk
  · rw [State.noting_lane]
    exact h.mode
  · rw [State.noting_chan]
    exact h.setup c
  · rw [State.noting_chan]
    exact h.chan c hc

/-! ### Starts and the turn arbiter (R100, R101, R109) -/

/-- The lane once a start has been tried with no record and no strobe: nothing with the queue empty, a record else (R110). -/
theorem State.startHead_lane {s : State} {n : LaneId} (hcur : (s.lane n).snd.cur = none)
    (hstrobe : (s.lane n).snd.strobe = none) : ∃ x, (s.startHead n).lane n = { s.lane n with snd := x } ∧
      ((s.lane n).snd.queue = [] → x = (s.lane n).snd) ∧ ((s.lane n).snd.queue ≠ [] → x.cur.isSome = true) := by
  cases hqueue : (s.lane n).snd.queue with
  | nil =>
    rw [State.startHead_none s n (.inl hqueue)]
    exact ⟨_, rfl, fun _ => rfl, fun h => absurd rfl h⟩
  | cons e rest =>
    rw [State.startHead_eq s n e rest hqueue hcur hstrobe, State.started_eq, State.wakeQueue_eq]
    exact ⟨_, State.setSnd_lane_same .., nofun, fun _ => rfl⟩

/-- With a DUPLEX lane's send side at rest its turn is not T_OUT (R101). -/
theorem LaneModes.of_duplex {l : Lane} (hmode : l.mode = .duplex) (hcur : l.snd.cur = none) (hstrobe : l.snd.strobe = none)
    (hturn : l.turn.turn ≠ .out) : LaneModes l := by
  refine ⟨fun hne => absurd hmode hne, fun _ => ⟨fun ho => absurd ho hturn, fun hw => ?_⟩, fun hw => ?_, fun hw => ?_⟩
  · rw [hcur, hstrobe] at hw
    rcases hw with hw | hw <;> cases hw
  · rw [hmode] at hw
    rcases hw with hw | hw <;> cases hw
  · rw [hmode] at hw
    rcases hw with hw | hw <;> cases hw

theorem LaneHalves.takesIn {s : State} {n : LaneId} (h : LaneHalves s n) (hmode : (s.lane n).mode = .duplex)
    (hcur : (s.lane n).snd.cur = none) (hstrobe : (s.lane n).snd.strobe = none) (hrest : LaneRests (s.lane n)) :
    LaneDone s (s.takesIn n) n := by
  refine ⟨h.setLane (by rfl) (by rfl) h.recv.shape.buffered (by rfl), ?_, ?_⟩
  · rw [State.takesIn_lane, if_pos rfl]
    exact hrest
  · rw [State.takesIn_lane, if_pos rfl]
    exact .of_duplex hmode hcur hstrobe nofun

theorem LaneHalves.grantOut {s : State} {n : LaneId} (h : LaneHalves s n) (hmode : (s.lane n).mode = .duplex)
    (hcur : (s.lane n).snd.cur = none) (hstrobe : (s.lane n).snd.strobe = none) (hrest : LaneRests (s.lane n))
    (hqueue : (s.lane n).snd.queue ≠ []) : LaneDone s (s.grantOut n) n := by
  obtain ⟨u, hu⟩ : ∃ u : State, u = s.setTurn n { (s.lane n).turn with turn := .out } := ⟨_, rfl⟩
  have hlane : u.lane n = { s.lane n with turn := { (s.lane n).turn with turn := .out } } := by
    rw [hu, State.setTurn_lane_same]
  have hstep : LaneStep s u n := by
    rw [hu]
    exact h.setLane (by rfl) (by rfl) h.recv.shape.buffered (by rfl)
  obtain ⟨x, hx, _, hsome⟩ := State.startHead_lane (s := u) (n := n) (by rw [hlane]; exact hcur)
    (by rw [hlane]; exact hstrobe)
  have hwork := hsome (by rw [hlane]; exact hqueue)
  have hgrant : s.grantOut n = u.startHead n := by rw [hu]; rfl
  rw [hgrant]
  refine hstep.done ⟨hstep.toLaneHalves.sendStep hstep.send.startHead, ?_, ?_⟩
  · rw [hx, hlane]
    exact hrest
  · rw [hx, hlane]
    refine ⟨fun hne => absurd hmode hne, fun _ => ⟨fun _ => .inl hwork, fun _ => rfl⟩, fun hw => ?_, fun hw => ?_⟩
    · rw [hmode] at hw
      rcases hw with hw | hw <;> cases hw
    · rw [hmode] at hw
      rcases hw with hw | hw <;> cases hw

/-- What the arbiter leaves when it decides with the lane's send side at rest (R100, R101, R102). -/
theorem LaneHalves.decideTurn {s : State} {n : LaneId} (h : LaneHalves s n) (hmode : (s.lane n).mode = .duplex)
    (hcur : (s.lane n).snd.cur = none) (hstrobe : (s.lane n).snd.strobe = none) (hturn : (s.lane n).turn.turn ≠ .out)
    (hrest : LaneRests (s.lane n)) : LaneDone s (s.decideTurn n) n := by
  have hidle : LaneDone s s n := ⟨.refl h, hrest, .of_duplex hmode hcur hstrobe hturn⟩
  by_cases hid : (s.lane n).turn.turn = .idle
  · have hin := h.takesIn hmode hcur hstrobe hrest
    rw [← State.grantIn_eq] at hin
    unfold State.decideTurn
    dsimp only
    rw [if_pos ⟨hmode, hid⟩]
    cases hqueue : (s.lane n).snd.queue with
    | nil =>
      cases (s.lane n).turn.want with
      | false => exact hidle
      | true => exact hin
    | cons e rest =>
      have hout := h.grantOut hmode hcur hstrobe hrest (by rw [hqueue]; exact List.cons_ne_nil _ _)
      cases (s.lane n).turn.want with
      | false => exact hout
      | true =>
        dsimp only [List.isEmpty_cons]
        split
        · exact hin
        · exact hout
  · rw [State.decideTurn_none s n (.inr hid)]
    exact hidle

/-- A decision of the arbiter at any moment (R100). -/
theorem LaneLaw.decideTurn {s : State} {n : LaneId} (h : LaneLaw s n) : LaneDone s (s.decideTurn n) n := by
  by_cases hmode : (s.lane n).mode = .duplex ∧ (s.lane n).turn.turn = .idle
  · obtain ⟨hduplex, hidle⟩ := hmode
    have hturn := h.modes.turned hduplex
    rw [hidle] at hturn
    have hnone := mt hturn.mpr nofun
    rw [not_or, Bool.not_eq_true, Bool.not_eq_true, Option.isSome_eq_false_iff, Option.isSome_eq_false_iff,
      Option.isNone_iff_eq_none, Option.isNone_iff_eq_none] at hnone
    exact h.toLaneHalves.decideTurn hduplex hnone.1 hnone.2 (by rw [hidle]; exact nofun) h.rest
  · rw [State.decideTurn_none s n (by rw [← not_and_or]; exact hmode)]
    exact h.unchanged

/-- A turn ends with the lane's send side at rest, and the arbiter decides (R100, R101, R102). -/
theorem LaneHalves.endTurn {s : State} {n : LaneId} (h : LaneHalves s n) (hmode : (s.lane n).mode = .duplex)
    (hcur : (s.lane n).snd.cur = none) (hstrobe : (s.lane n).snd.strobe = none) (hrest : LaneRests (s.lane n))
    (d : Direction) : LaneDone s (s.endTurn n d) n := by
  have hlane := s.turnOver_lane n d
  have hstep : LaneStep s (s.turnOver n d) n := by
    refine h.setLane (by rfl) (by rfl) ?_ ?_
    · cases d <;> exact h.recv.shape.buffered
    · cases d <;> rfl
  rw [State.endTurn_eq]
  refine hstep.done (hstep.toLaneHalves.decideTurn (by rw [hlane]; exact hmode) (by rw [hlane]; exact hcur)
    (by rw [hlane]; exact hstrobe) (by rw [hlane]; exact nofun) ?_)
  rw [hlane]
  cases d <;> exact hrest

/-- The lane's send side has become able to start (R101, R109). -/
theorem LaneHalves.sendSideFree {s : State} {n : LaneId} (h : LaneHalves s n) (hmode : (s.lane n).mode = .send ∨
    (s.lane n).mode = .duplex) (hcur : (s.lane n).snd.cur = none) (hstrobe : (s.lane n).snd.strobe = none)
    (hrest : LaneRests (s.lane n)) (hsend : (s.lane n).mode = .send →
      (s.lane n).turn.turn = .idle ∧ (s.lane n).rcv = RecvSide.reset) : LaneDone s (s.sendSideFree n) n := by
  rcases hmode with hmode | hmode
  · obtain ⟨hturn, hrcv⟩ := hsend hmode
    obtain ⟨x, hx, _⟩ := State.startHead_lane hcur hstrobe
    rw [State.sendSideFree_send hmode]
    refine ⟨h.sendStep h.send.startHead, ?_, ?_⟩
    · rw [hx]
      exact hrest
    · rw [hx]
      refine ⟨fun _ => hturn, fun hm => ?_, fun hm => ?_, fun _ => hrcv⟩
      · rw [hmode] at hm
        cases hm
      · rw [hmode] at hm
        rcases hm with hm | hm <;> cases hm
  · rw [State.sendSideFree, if_pos hmode]
    exact h.endTurn hmode hcur hstrobe hrest .outbound

end Sys2Proof.Machine
end

section
/-! SUPPORT. The commands of the lanes keep the laws of the part (chapters 5 to 7). -/

namespace Sys2Proof.Machine

/-! ### One side of a lane -/

/-- An operation of the receive side alone (R86, R103). -/
theorem LaneLaw.recvDone {s t : State} {n : LaneId} (h : LaneLaw s n) (hstep : RecvStep s t n) (hrest : LaneRests (t.lane n))
    (hmode : ¬((s.lane n).mode = .mirror ∨ (s.lane n).mode = .send)) : LaneDone s t n := by
  refine ⟨h.toLaneHalves.recvStep hstep, hrest, ?_⟩
  rw [hstep.2.own]
  exact h.modes.setRcv fun hm => absurd hm hmode

/-- An operation of the send side alone that keeps whether it works (R86, R101, R103). -/
theorem LaneLaw.sendDone {s t : State} {n : LaneId} (h : LaneLaw s n) (hstep : SendStep s t n)
    (hmode : ¬((s.lane n).mode = .mirror ∨ (s.lane n).mode = .receive))
    (hturn : ((t.lane n).snd.cur.isSome = true ∨ (t.lane n).snd.strobe.isSome = true) ↔
      ((s.lane n).snd.cur.isSome = true ∨ (s.lane n).snd.strobe.isSome = true)) : LaneDone s t n := by
  have hown := hstep.2.own
  refine ⟨h.toLaneHalves.sendStep hstep, ?_, ?_⟩
  · rw [hown]
    exact h.rest
  · rw [hown]
    exact h.modes.setSnd (fun hm => absurd hm hmode) hturn

/-- A send side that works, or has a strobe, is not that of a lane without one. -/
theorem LaneModes.of_working {l : Lane} (h : LaneModes l) (hwork : l.snd.cur ≠ none ∨ l.snd.strobe ≠ none) :
    ¬(l.mode = .mirror ∨ l.mode = .receive) := by
  intro hm
  rw [h.silent hm] at hwork
  rcases hwork with hw | hw <;> exact hw rfl

/-- A DUPLEX lane's send side rests outside T_OUT (R101). -/
theorem LaneModes.at_rest {l : Lane} (h : LaneModes l) (hmode : l.mode = .duplex) (hturn : l.turn.turn ≠ .out) :
    l.snd.cur = none ∧ l.snd.strobe = none := by
  have hnone := mt (h.turned hmode).mpr hturn
  rwa [not_or, Bool.not_eq_true, Bool.not_eq_true, Option.isSome_eq_false_iff, Option.isSome_eq_false_iff,
    Option.isNone_iff_eq_none, Option.isNone_iff_eq_none] at hnone

/-- The modes of a lane with a send side. -/
theorem LaneMode.speaks {m : LaneMode} (h : ¬(m = .mirror ∨ m = .receive)) : m = .send ∨ m = .duplex := by
  cases m with
  | mirror => exact absurd (.inl rfl) h
  | receive => exact absurd (.inr rfl) h
  | send => exact .inl rfl
  | duplex => exact .inr rfl

/-- What the send side is once its record has failed (R118, R119). -/
theorem State.sendFailed_lane (s : State) (n : LaneId) (q : SendRecord) (m : Mover) (detail : BitVec 16) :
    (s.sendFailed n q m detail).lane n = { s.lane n with snd := { (s.lane n).snd with
      cur := none
      tx := []
      mover := m
      takeTimer := none
      strobe := some (s.now + 1)
      takePulse := (s.lane n).snd.takePulse.map fun _ => false } } := State.setSnd_lane_same ..

/-! ### TAKE, the take timer and the abort strobe (R92 to R94) -/

/-- A TAKE pulse is noted, or seen no more (R92). -/
theorem Inv.setTakePulse {s : State} (h : Inv s) (n : LaneId) {p : Option Bool}
    (hp : (s.lane n).mode = .mirror ∨ (s.lane n).mode = .receive → p = (s.lane n).snd.takePulse) :
    Inv (s.setSnd n { (s.lane n).snd with takePulse := p }) := by
  by_cases hmode : (s.lane n).mode = .mirror ∨ (s.lane n).mode = .receive
  · rw [hp hmode]
    change Inv (s.setSnd n (s.lane n).snd)
    rw [State.setSnd_snd]
    exact h
  · exact h.laneDone (fun hm => hmode (.inl hm)) (.setSnd rfl)
      ((h.laneLaw n).sendDone ((h.laneLaw n).send.setStrobe (by rfl) (.inl rfl)) hmode (by rw [State.setSnd_lane_same]))

theorem Inv.execTakeAssertion {s t : State} {n : LaneId} (h : Inv s) (ht : exec (.takeAssertion n) s = .next t) : Inv t := by
  change Host.Outcome.next (if (s.lane n).offersBytes then _ else s) = _ at ht
  split at ht
  · rename_i hoffers
    cases ht
    refine h.setTakePulse n fun hm => ?_
    unfold Lane.offersBytes at hoffers
    rcases hm with hm | hm <;> rw [hm] at hoffers <;> cases hoffers
  · cases ht
    exact h

theorem Inv.execTake {s t : State} {n : LaneId} (h : Inv s) (ht : exec (.take n) s = .next t) : Inv t := by
  have hlaw := h.laneLaw n
  by_cases htaken : (s.lane n).snd.takePulse = some true ∧ ∃ q, (s.lane n).snd.cur = some q ∧ q.offering = true
  · obtain ⟨hpulse, q, hcur, hoff⟩ := htaken
    have hspeaks := hlaw.modes.of_working (.inl (by rw [hcur]; exact Option.some_ne_none _))
    obtain ⟨u, hu, hev⟩ := LaneEvent.execTake n s
    cases hu.symm.trans ht
    refine h.laneDone (fun hm => hspeaks (.inl hm)) hev ?_
    by_cases hlast : q.offered = q.len
    · cases (exec_take_last hpulse hcur hoff hlast).symm.trans ht
      have hlane := s.sendDone_lane n q
      have hdone := hlaw.toLaneHalves.sendStep (hlaw.send.sendDone hcur hlast)
      refine (hdone.done (hdone.toLaneHalves.sendSideFree ?_ ?_ ?_ ?_ ?_)).noting s
      · rw [hlane]
        exact LaneMode.speaks hspeaks
      · rw [hlane]
      · rw [hlane]
        exact (hlaw.send.shape.record.1 q hcur).2.2.2.2.1
      · rw [hlane]
        exact hlaw.rest
      · rw [hlane]
        intro hm
        exact ⟨hlaw.modes.unturned (by rw [hm]; exact nofun), hlaw.modes.deaf (.inr hm)⟩
    · cases (exec_take_offered hpulse hcur hoff).symm.trans ht
      rw [State.takeByte_next hlast, State.setSnd_lane_same, State.setSnd_setSnd]
      have hseen := hlaw.send.setStrobe (x := { (s.lane n).snd with takePulse := none }) rfl (.inl rfl)
      have hnext := hseen.1.takeNext (q := q) (by rw [State.setSnd_lane_same]; exact hcur) hlast
        (deadline s.now (s.lane n).takeLimit) _ rfl
      rw [State.setSnd_lane_same, State.setSnd_setSnd] at hnext
      refine LaneDone.noting (hlaw.sendDone ⟨hnext.1, .of_snd (fun _ => rfl) fun _ => rfl⟩ hspeaks ?_) s
      obtain ⟨_, hsending, _⟩ := SendSide.offerNext_frame { (s.lane n).snd with takePulse := none }
        (deadline s.now (s.lane n).takeLimit) q
      rw [State.setSnd_lane_same, hcur]
      refine ⟨fun _ => .inl rfl, fun _ => .inl ?_⟩
      obtain ⟨r, hr, _⟩ := Option.map_eq_some_iff.mp hsending
      rw [hr]
      rfl
  · rw [exec_take_ignored] at ht
    · cases ht
      exact h.setTakePulse n fun hm => by rw [hlaw.modes.silent hm]; rfl
    · rw [not_and_or] at htaken
      refine htaken.imp_right fun hnot => ?_
      cases hcur : (s.lane n).snd.cur with
      | none => exact .inl rfl
      | some q => exact .inr ⟨q, rfl, Bool.eq_false_iff.mpr fun hoff => hnot ⟨q, hcur, hoff⟩⟩

theorem Inv.execTakeTimerExpiry {s t : State} {n : LaneId} (h : Inv s) (ht : exec (.takeTimerExpiry n) s = .next t) :
    Inv t := by
  have hlaw := h.laneLaw n
  obtain ⟨u, hu, hev⟩ := LaneEvent.execTakeTimerExpiry n s
  cases hu.symm.trans ht
  change Host.Outcome.next (match (s.lane n).snd.cur with
    | some r => if r.offering && timerDue s.now (s.lane n).snd.takeTimer then s.noting (s.failRecord n r 1) else s
    | none => s) = _ at ht
  cases hcur : (s.lane n).snd.cur with
  | none =>
    rw [hcur] at ht
    cases ht
    exact h
  | some q =>
    rw [hcur] at ht
    have hspeaks := hlaw.modes.of_working (.inl (by rw [hcur]; exact Option.some_ne_none _))
    dsimp only at ht
    split at ht
    · cases ht
      refine h.laneDone (fun hm => hspeaks (.inl hm)) hev
        (LaneDone.noting (hlaw.sendDone (hlaw.send.failRecord hcur 1) hspeaks ?_) s)
      rw [State.failRecord_eq, State.sendFailed_lane, hcur]
      exact ⟨fun _ => .inl rfl, fun _ => .inr rfl⟩
    · cases ht
      exact h

theorem Inv.execAbortStrobeEnd {s t : State} {n : LaneId} (h : Inv s) (ht : exec (.abortStrobeEnd n) s = .next t) :
    Inv t := by
  have hlaw := h.laneLaw n
  obtain ⟨u, hu, hev⟩ := LaneEvent.execAbortStrobeEnd n s
  cases hu.symm.trans ht
  change Host.Outcome.next (if timerDue s.now (s.lane n).snd.strobe then
    s.noting ((s.setSnd n { (s.lane n).snd with strobe := none }).sendSideFree n) else s) = _ at ht
  split at ht
  · rename_i hdue
    have hstrobe : (s.lane n).snd.strobe ≠ none := fun hnone => by
      rw [hnone, timerDue_none] at hdue
      cases hdue
    have hcur : (s.lane n).snd.cur = none := by
      by_contra hsome
      obtain ⟨q, hq⟩ := Option.ne_none_iff_exists'.mp hsome
      exact hstrobe (hlaw.send.shape.record.1 q hq).2.2.2.2.1
    have hspeaks := hlaw.modes.of_working (.inr hstrobe)
    have hlane := s.setSnd_lane_same n { (s.lane n).snd with strobe := none }
    cases ht
    refine h.laneDone (fun hm => hspeaks (.inl hm)) hev (LaneDone.noting ?_ s)
    have hstep := hlaw.toLaneHalves.sendStep
      (hlaw.send.setStrobe (x := { (s.lane n).snd with strobe := none }) rfl (.inr rfl))
    refine hstep.done (hstep.toLaneHalves.sendSideFree ?_ ?_ ?_ ?_ ?_)
    · rw [hlane]
      exact LaneMode.speaks hspeaks
    · rw [hlane]
      exact hcur
    · rw [hlane]
    · rw [hlane]
      exact hlaw.rest
    · rw [hlane]
      intro hm
      exact ⟨hlaw.modes.unturned (by rw [hm]; exact nofun), hlaw.modes.deaf (.inr hm)⟩
  · cases ht
    exact h

/-! ### WANT (R100, R102) -/

theorem Inv.execWantRise {s t : State} {n : LaneId} (h : Inv s) (ht : exec (.wantRise n) s = .next t) : Inv t := by
  have hlaw := h.laneLaw n
  obtain ⟨u, hu, hev⟩ := LaneEvent.execWantRise n s
  cases hu.symm.trans ht
  by_cases hmode : (s.lane n).mode = .duplex
  · obtain ⟨v, hv⟩ : ∃ v : State, v = s.setTurn n { (s.lane n).turn with want := true } := ⟨_, rfl⟩
    have hexec : exec (.wantRise n) s = .next (s.noting (v.decideTurn n)) := by
      rw [hv]
      exact congrArg Host.Outcome.next (if_pos hmode)
    have hlane : v.lane n = { s.lane n with turn := { (s.lane n).turn with want := true } } := by
      rw [hv, State.setTurn_lane_same]
    cases hexec.symm.trans ht
    have hstep : LaneStep s v n := by
      rw [hv]
      exact hlaw.toLaneHalves.setLane (by rfl) (by rfl) hlaw.recv.shape.buffered (by rfl)
    have hvlaw : LaneLaw v n := by
      refine ⟨hstep.toLaneHalves, ?_, ?_⟩
      · rw [hlane]
        exact hlaw.rest
      · rw [hlane]
        exact ⟨hlaw.modes.unturned, hlaw.modes.turned, hlaw.modes.silent, hlaw.modes.deaf⟩
    exact h.laneDone (by rw [hmode]; exact nofun) hev ((hstep.done hvlaw.decideTurn).noting s)
  · cases (congrArg Host.Outcome.next (if_neg hmode) : exec (.wantRise n) s = .next s).symm.trans ht
    exact h

theorem Inv.execWantFall {s t : State} {n : LaneId} (h : Inv s) (ht : exec (.wantFall n) s = .next t) : Inv t := by
  have hlaw := h.laneLaw n
  obtain ⟨u, hu, hev⟩ := LaneEvent.execWantFall n s
  cases hu.symm.trans ht
  by_cases hmode : (s.lane n).mode = .duplex
  · obtain ⟨v, hv⟩ : ∃ v : State, v = s.setTurn n { (s.lane n).turn with want := false } := ⟨_, rfl⟩
    have hexec : exec (.wantFall n) s = .next (
        if (s.lane n).turn.turn = .inn ∧ (s.lane n).turn.putSeen = false then s.noting (v.endTurn n .inbound) else v) := by
      rw [hv]
      exact congrArg Host.Outcome.next (if_pos hmode)
    have hlane : v.lane n = { s.lane n with turn := { (s.lane n).turn with want := false } } := by
      rw [hv, State.setTurn_lane_same]
    have hstep : LaneStep s v n := by
      rw [hv]
      exact hlaw.toLaneHalves.setLane (by rfl) (by rfl) hlaw.recv.shape.buffered (by rfl)
    have hnot : (s.lane n).mode ≠ .mirror := by rw [hmode]; exact nofun
    have hwhole := hexec.symm.trans ht
    split at hwhole
    · rename_i hturn
      cases hwhole
      obtain ⟨hcur, hstrobe⟩ := hlaw.modes.at_rest hmode (by rw [hturn.1]; exact nofun)
      refine h.laneDone hnot hev (LaneDone.noting (hstep.done (hstep.toLaneHalves.endTurn ?_ ?_ ?_ ?_ .inbound)) s)
      · rw [hlane]
        exact hmode
      · rw [hlane]
        exact hcur
      · rw [hlane]
        exact hstrobe
      · rw [hlane]
        exact hlaw.rest
    · cases hwhole
      refine h.laneDone hnot hev ⟨hstep, ?_, ?_⟩
      · rw [hlane]
        exact hlaw.rest
      · rw [hlane]
        exact ⟨hlaw.modes.unturned, hlaw.modes.turned, hlaw.modes.silent, hlaw.modes.deaf⟩
  · cases (congrArg Host.Outcome.next (if_neg hmode) : exec (.wantFall n) s = .next s).symm.trans ht
    exact h

end Sys2Proof.Machine
end

section
/-! SUPPORT. The commands of the receive side of a lane keep the laws of the part (R95 to R99, R131). -/

namespace Sys2Proof.Machine

/-! ### Marks and puts (R95 to R97) -/

theorem RecvStep.refl {s : State} {n : LaneId} (h : RecvHalf s n) : RecvStep s s n := ⟨h, .refl s n⟩

/-- Whether the side consumes depends on its state and its mover. -/
theorem RecvSide.consumes_congr {x y : RecvSide} (hstate : x.state = y.state) (hmover : x.mover = y.mover) :
    x.consumes = y.consumes := by
  unfold RecvSide.consumes
  rw [hstate, hmover]

/-- A mark is recorded (R95). -/
theorem RecvHalf.recordMark {s : State} {n : LaneId} (h : RecvHalf s n) (hrest : LaneRests (s.lane n)) (m : EndMark) :
    RecvStep s (s.recordMark n m) n ∧ LaneRests ((s.recordMark n m).lane n) := by
  rcases List.eq_nil_or_concat (s.lane n).rcv.rx with hnil | ⟨front, e, hrx⟩
  · rw [State.recordMark_nil hnil]
    exact ⟨h.takeMark m, fun _ => by rw [State.takeMark_rx, hnil]⟩
  · rw [List.concat_eq_append] at hrx
    rw [State.recordMark_tail hrx]
    refine ⟨h.setPut ?_ (by rfl), fun hc => ?_⟩
    · have hle := h.shape.buffered
      rw [hrx, List.length_append] at hle
      rw [List.length_append]
      exact hle
    · rw [State.setRcv_lane_same] at hc
      have hempty := hrest ((RecvSide.consumes_congr rfl rfl).trans hc)
      rw [hrx] at hempty
      simp at hempty

/-- The put state, its timer and its pulse change. -/
theorem RecvHalf.setPutState {s : State} {n : LaneId} (h : RecvHalf s n) (hrest : LaneRests (s.lane n)) {x : RecvSide}
    (hx : x = { (s.lane n).rcv with putState := x.putState, byteTimer := x.byteTimer, markPulse := x.markPulse }) :
    RecvStep s (s.setRcv n x) n ∧ LaneRests ((s.setRcv n x).lane n) := by
  obtain ⟨y, hy⟩ : ∃ y : RecvSide, y = x := ⟨_, rfl⟩
  rw [hx]
  refine ⟨h.setPut h.shape.buffered (by rfl), fun hc => ?_⟩
  rw [State.setRcv_lane_same] at hc ⊢
  exact hrest ((RecvSide.consumes_congr rfl rfl).trans hc)

/-- A put with room (R96). -/
theorem RecvHalf.acceptPut {s : State} {n : LaneId} (h : RecvHalf s n) (hroom : (s.lane n).rcv.rx.length < 16) (b : Byte)
    (mark : Bool) : RecvStep s (s.acceptPut n b mark) n ∧ LaneRests ((s.acceptPut n b mark).lane n) := by
  rw [State.acceptPut_eq s n b mark rfl rfl]
  have hstep := h.setPut (x := { (s.lane n).rcv with
      rx := if (s.lane n).rcv.putState = .skip then (s.lane n).rcv.rx else (s.lane n).rcv.rx ++ [⟨b, mark, none⟩]
      putState := if mark = true then .gap else if (s.lane n).rcv.putState = .skip then .skip else .record
      byteTimer := if (if (s.lane n).rcv.putState = .skip then (s.lane n).rcv.rx
          else (s.lane n).rcv.rx ++ [⟨b, mark, none⟩]).length < 16 ∧
          (if mark = true then PutState.gap else if (s.lane n).rcv.putState = .skip then .skip else .record) ≠ .gap
        then deadline s.now (s.lane n).byteLimit else none }) (by
    dsimp only
    split
    · exact Nat.le_of_lt hroom
    · rw [List.length_append]
      exact hroom) rfl
  exact ⟨hstep.trans hstep.1.drain.1, hstep.1.drain.2⟩

/-- A put that finds the buffer full (R97). -/
theorem RecvHalf.overrun {s : State} {n : LaneId} (h : RecvHalf s n) (hrest : LaneRests (s.lane n)) (mark : Bool) :
    RecvStep s (s.overrun n mark) n ∧ LaneRests ((s.overrun n mark).lane n) := by
  have hmarked : ∃ t, s.overrun n mark = t.setRcv n { (t.lane n).rcv with putState := PutState.skip.afterPut mark } ∧
      RecvStep s t n ∧ LaneRests (t.lane n) := by
    unfold State.overrun
    dsimp only
    split
    · exact ⟨_, rfl, h.recordMark hrest _⟩
    · exact ⟨s, rfl, .refl h, hrest⟩
  obtain ⟨t, ht, hstep, hrest'⟩ := hmarked
  obtain ⟨hput, hrest''⟩ := hstep.1.setPutState hrest'
    (x := { (t.lane n).rcv with putState := PutState.skip.afterPut mark }) rfl
  rw [ht]
  exact ⟨hstep.trans hput, hrest''⟩

/-- An engine abort (R98). -/
theorem RecvHalf.engineAborts {s : State} {n : LaneId} (h : RecvHalf s n) (hrest : LaneRests (s.lane n)) :
    RecvStep s (s.engineAborts n) n ∧ LaneRests ((s.engineAborts n).lane n) := by
  have hgap := h.setPutState hrest (x := { (s.lane n).rcv with putState := .gap, byteTimer := none }) rfl
  cases hput : (s.lane n).rcv.putState with
  | record =>
    obtain ⟨hstep, hrest'⟩ := hgap.1.1.recordMark hgap.2 .abort
    rw [State.engineAborts_record hput]
    exact ⟨hgap.1.trans hstep, hrest'⟩
  | skip =>
    rw [State.engineAborts_skip hput]
    exact hgap
  | gap =>
    rw [State.engineAborts_gap hput]
    split
    · exact ⟨.refl h, hrest⟩
    · exact h.recordMark hrest _

/-- The byte timer's expiry (R99). -/
theorem RecvHalf.byteTimedOut {s : State} {n : LaneId} (h : RecvHalf s n) (hrest : LaneRests (s.lane n)) :
    RecvStep s (s.byteTimedOut n) n ∧ LaneRests ((s.byteTimedOut n).lane n) := by
  have hgap := h.setPutState hrest (x := { (s.lane n).rcv with putState := .gap, byteTimer := none }) rfl
  by_cases hput : (s.lane n).rcv.putState = .record
  · obtain ⟨hstep, hrest'⟩ := hgap.1.1.recordMark hgap.2 .timeout
    rw [State.byteTimedOut_record hput]
    exact ⟨hgap.1.trans hstep, hrest'⟩
  · rw [State.byteTimedOut_other hput]
    exact hgap

/-! ### What the lane does after its receive side (R102) -/

/-- After an event of the receive side in T_IN the turn ends, or stays (R102). -/
theorem LaneLaw.recvThenTurn {s t u : State} {n : LaneId} (h : LaneLaw s n) (hturn : LaneStep s t n)
    (hlane : ∃ x y, t.lane n = { s.lane n with turn := x, rcv := y } ∧ x.turn = (s.lane n).turn.turn)
    (hstep : RecvStep t u n) (hrest : LaneRests (u.lane n)) (hmode : ¬((s.lane n).mode = .mirror ∨ (s.lane n).mode = .send))
    (ends : Bool) (hends : ends = true → (s.lane n).mode = .duplex ∧ (s.lane n).turn.turn = .inn) :
    LaneDone s (if ends then u.endTurn n .inbound else u) n := by
  obtain ⟨x, y, hx, hxturn⟩ := hlane
  have hu := hturn.toLaneHalves.recvStep hstep
  have hown := hstep.2.own
  rw [hx] at hown
  cases ends with
  | true =>
    obtain ⟨hduplex, hinn⟩ := hends rfl
    obtain ⟨hcur, hstrobe⟩ := h.modes.at_rest hduplex (by rw [hinn]; exact nofun)
    refine (hturn.trans hu).done (hu.toLaneHalves.endTurn ?_ ?_ ?_ hrest .inbound)
    · rw [hown]
      exact hduplex
    · rw [hown]
      exact hcur
    · rw [hown]
      exact hstrobe
  | false =>
    refine ⟨hturn.trans hu, hrest, ?_⟩
    obtain ⟨hunturned, hturned, hsilent, _⟩ := h.modes
    change LaneModes (u.lane n)
    rw [hown]
    refine ⟨fun hm => ?_, fun hm => ?_, hsilent, fun hm => absurd hm hmode⟩
    · dsimp only
      rw [hxturn]
      exact hunturned hm
    · dsimp only
      rw [hxturn]
      exact hturned hm

/-- A lane that takes puts has a receive side (R96). -/
theorem Lane.takesPuts_hears {l : Lane} (h : l.takesPuts = true) : ¬(l.mode = .mirror ∨ l.mode = .send) := by
  rw [Lane.takesPuts_iff] at h
  rintro (hm | hm) <;> rw [hm] at h <;> rcases h with h | h
  · cases h
  · cases h.1
  · cases h
  · cases h.1

theorem Lane.takesPuts_duplex {l : Lane} (h : l.takesPuts = true) (hmode : l.mode = .duplex) : l.turn.turn = .inn := by
  rw [Lane.takesPuts_iff, hmode] at h
  rcases h with h | h
  · cases h
  · exact h.2

/-! ### The commands -/

theorem Inv.execPut {s t : State} {n : LaneId} {b : Byte} {mark : Bool} (h : Inv s)
    (ht : exec (.put n b mark) s = .next t) : Inv t := by
  have hlaw := h.laneLaw n
  obtain ⟨u, hu, hev⟩ := LaneEvent.execPut n b mark s
  cases hu.symm.trans ht
  by_cases htakes : (s.lane n).takesPuts = true
  · have hhears := Lane.takesPuts_hears htakes
    obtain ⟨v, hv⟩ : ∃ v : State, v = s.setLane n { s.lane n with
        turn := { (s.lane n).turn with putSeen := true }
        rcv := { (s.lane n).rcv with markPulse := if mark then some true else none } } := ⟨_, rfl⟩
    have hexec := exec_put_taken (b := b) (mark := mark) htakes rfl
    rw [← hv] at hexec
    have hlane : v.lane n = { s.lane n with
        turn := { (s.lane n).turn with putSeen := true }
        rcv := { (s.lane n).rcv with markPulse := if mark then some true else none } } := by rw [hv, State.lane_setLane_same]
    have hstep : LaneStep s v n := by
      rw [hv]
      exact hlaw.toLaneHalves.setLane (by rfl) (by rfl) hlaw.recv.shape.buffered (by rfl)
    have hrest : LaneRests (v.lane n) := by
      rw [hlane]
      exact hlaw.rest
    have hput : ∃ w, (if (s.lane n).rcv.rx.length < 16 then v.acceptPut n b mark else v.overrun n mark) = w ∧
        RecvStep v w n ∧ LaneRests (w.lane n) := by
      refine ⟨_, rfl, ?_⟩
      split
      · rename_i hroom
        exact hstep.recv.acceptPut (by rw [hlane]; exact hroom) b mark
      · exact hstep.recv.overrun hrest mark
    obtain ⟨w, hw, hwstep, hwrest⟩ := hput
    rw [hw] at hexec
    cases hexec.symm.trans ht
    refine h.laneDone (fun hm => hhears (.inl hm)) hev (LaneDone.noting ?_ s)
    have hdone := hlaw.recvThenTurn hstep ⟨_, _, hlane, rfl⟩ hwstep hwrest hhears (decide (mark = true ∧ (s.lane n).mode = .duplex))
      (fun hd => by
        have hm := (of_decide_eq_true hd).2
        exact ⟨hm, Lane.takesPuts_duplex htakes hm⟩)
    simpa only [decide_eq_true_eq] using hdone
  · cases (congrArg Host.Outcome.next (if_neg htakes) : exec (.put n b mark) s = .next s).symm.trans ht
    exact h

/-- A MARK pulse is noted, or seen no more (R98). -/
theorem Inv.setMarkPulse {s : State} (h : Inv s) (n : LaneId) {p : Option Bool}
    (hp : (s.lane n).mode = .mirror ∨ (s.lane n).mode = .send → p = (s.lane n).rcv.markPulse) :
    Inv (s.setRcv n { (s.lane n).rcv with markPulse := p }) := by
  by_cases hmode : (s.lane n).mode = .mirror ∨ (s.lane n).mode = .send
  · rw [hp hmode]
    change Inv (s.setRcv n (s.lane n).rcv)
    rw [State.setRcv_rcv]
    exact h
  · obtain ⟨hstep, hrest⟩ := (h.laneLaw n).recv.setPutState (h.laneLaw n).rest
      (x := { (s.lane n).rcv with markPulse := p }) rfl
    exact h.laneDone (fun hm => hmode (.inl hm)) (.setRcv rfl) ((h.laneLaw n).recvDone hstep hrest hmode)

theorem Inv.execMarkAssertion {s t : State} {n : MarkStart} (h : Inv s) (ht : exec (.markAssertion n) s = .next t) :
    Inv t := by
  change Host.Outcome.next (if (s.lane n.lane).takesPuts then _ else s) = _ at ht
  split at ht
  · rename_i htakes
    cases ht
    exact h.setMarkPulse n.lane fun hm => absurd hm (Lane.takesPuts_hears htakes)
  · cases ht
    exact h

theorem Inv.execEngineAbort {s t : State} {n : LaneId} (h : Inv s) (ht : exec (.engineAbort n) s = .next t) : Inv t := by
  have hlaw := h.laneLaw n
  obtain ⟨u, hu, hev⟩ := LaneEvent.execEngineAbort n s
  cases hu.symm.trans ht
  by_cases hseen : (s.lane n).takesPuts = true ∧ (s.lane n).rcv.markPulse = some false
  · obtain ⟨htakes, hpulse⟩ := hseen
    have hhears := Lane.takesPuts_hears htakes
    obtain ⟨v, hv⟩ : ∃ v : State, v = s.setRcv n { (s.lane n).rcv with markPulse := none } := ⟨_, rfl⟩
    have hexec := exec_engineAbort_seen htakes hpulse rfl rfl
    rw [← hv] at hexec
    obtain ⟨hstep, hrest⟩ := hlaw.recv.setPutState hlaw.rest (x := { (s.lane n).rcv with markPulse := none }) rfl
    rw [← hv] at hstep hrest
    obtain ⟨hwstep, hwrest⟩ := hstep.1.engineAborts hrest
    cases hexec.symm.trans ht
    refine h.laneDone (fun hm => hhears (.inl hm)) hev (LaneDone.noting ?_ s)
    have hdone := hlaw.recvThenTurn (hlaw.toLaneHalves.recvStep hstep) ⟨_, _, hstep.2.own, rfl⟩ hwstep hwrest hhears
      (decide ((s.lane n).mode = .duplex))
      (fun hd => ⟨of_decide_eq_true hd, Lane.takesPuts_duplex htakes (of_decide_eq_true hd)⟩)
    simpa only [decide_eq_true_eq] using hdone
  · rw [exec_engineAbort_ignored] at ht
    · cases ht
      exact h.setMarkPulse n fun hm => by rw [hlaw.modes.deaf hm]; rfl
    · rw [not_and_or, Bool.not_eq_true] at hseen
      exact hseen

theorem Inv.execByteTimerExpiry {s t : State} {n : LaneId} (h : Inv s) (ht : exec (.byteTimerExpiry n) s = .next t) :
    Inv t := by
  have hlaw := h.laneLaw n
  obtain ⟨u, hu, hev⟩ := LaneEvent.execByteTimerExpiry n s
  cases hu.symm.trans ht
  by_cases hdue : timerDue s.now (s.lane n).rcv.byteTimer = true
  · have hhears : ¬((s.lane n).mode = .mirror ∨ (s.lane n).mode = .send) := hlaw.modes.hears fun hreset => by
      rw [hreset] at hdue
      cases hdue
    obtain ⟨hwstep, hwrest⟩ := hlaw.recv.byteTimedOut hlaw.rest
    have hexec : exec (.byteTimerExpiry n) s = .next (s.noting (
        if (s.lane n).mode = .duplex ∧ (s.lane n).turn.turn = .inn then (s.byteTimedOut n).endTurn n .inbound
        else s.byteTimedOut n)) := congrArg Host.Outcome.next (if_pos hdue)
    cases hexec.symm.trans ht
    refine h.laneDone (fun hm => hhears (.inl hm)) hev (LaneDone.noting ?_ s)
    have hdone := hlaw.recvThenTurn (.refl hlaw.toLaneHalves) ⟨_, _, rfl, rfl⟩ hwstep hwrest hhears
      (decide ((s.lane n).mode = .duplex ∧ (s.lane n).turn.turn = .inn)) fun hd => of_decide_eq_true hd
    simpa only [decide_eq_true_eq] using hdone
  · cases (congrArg Host.Outcome.next (if_neg hdue) : exec (.byteTimerExpiry n) s = .next s).symm.trans ht
    exact h

theorem Inv.execSlotWaitExpiry {s t : State} {n : LaneId} (h : Inv s) (ht : exec (.slotWaitExpiry n) s = .next t) :
    Inv t := by
  have hlaw := h.laneLaw n
  obtain ⟨u, hu, hev⟩ := LaneEvent.execSlotWaitExpiry n s
  cases hu.symm.trans ht
  change Host.Outcome.next (match (s.lane n).rcv.state with
    | .slotWait c ended => if timerDue s.now (s.lane n).rcv.slotWaitTimer then
        s.noting ((s.dropWaiting n c 5 (if ended then .idle else .discarding)).drain n) else s
    | _ => s) = _ at ht
  split at ht
  · rename_i c ended hstate
    split at ht
    · have hhears : ¬((s.lane n).mode = .mirror ∨ (s.lane n).mode = .send) := hlaw.modes.hears fun hreset => by
        rw [hreset] at hstate
        cases hstate
      have hdrop := hlaw.recv.dropWaiting hstate 5 (after := if ended then .idle else .discarding) (by
        cases ended with
        | true => exact .inl rfl
        | false => exact .inr rfl)
      obtain ⟨hdrain, hrest⟩ := hdrop.1.drain
      cases ht
      exact h.laneDone (fun hm => hhears (.inl hm)) hev (LaneDone.noting (hlaw.recvDone (hdrop.trans hdrain) hrest hhears) s)
    · cases ht
      exact h
  · cases ht
    exact h

end Sys2Proof.Machine
end

section
/-! SUPPORT. What the laws of the blocks rest on, and the setup writes that change little: limits, masks, latches, enables, the
words of a channel that is not RUNNING, the ring and its indices (chapters 2, 3, 5, 9 and 10). -/

namespace Sys2Proof.Machine

/-! ### What the laws of a lane speak of -/

/-- What the laws of a lane speak of, in a channel's record: not its route, guard, base, limits, enables and counts. -/
def Channel.work (ch : Channel) : Channel :=
  { ch with route := 0, guard := 0, base := 0, stallLimit := 0, enables := 0, seqCtr := 0, done := 0, faults := 0 }

theorem work_same {ch ch' : Channel} (h : ch'.work = ch.work) : ch'.state = ch.state ∧ ch'.dir = ch.dir ∧
    ch'.lane = ch.lane ∧ ch'.count = ch.count ∧ ch'.sizeCode = ch.sizeCode ∧ ch'.fillPtr = ch.fillPtr ∧
    ch'.slots = ch.slots := by
  have hstate := congrArg Channel.state h
  have hdir := congrArg Channel.dir h
  have hlane := congrArg Channel.lane h
  have hcount := congrArg Channel.count h
  have hcode := congrArg Channel.sizeCode h
  have hptr := congrArg Channel.fillPtr h
  have hslots := congrArg Channel.slots h
  exact ⟨hstate, hdir, hlane, hcount, hcode, hptr, hslots⟩

theorem Channel.Tracked.congr {ch ch' : Channel} (h : ch.Tracked) (hwork : ch'.work = ch.work) : ch'.Tracked := by
  obtain ⟨_, hdir, _, hcount, hcode, hptr, hslots⟩ := work_same hwork
  rw [Channel.tracked_iff] at h ⊢
  have hlaw : SlotRecLaw ch' = SlotRecLaw ch := by
    unfold SlotRecLaw Channel.capacity Channel.size
    rw [hdir, hcode]
  rw [hslots, hcount, hptr, hlaw]
  exact h

theorem State.serves_work {s t : State} {c : ChanId} (h : (t.chan c).work = (s.chan c).work) (d : Direction) (n : LaneId) :
    t.serves c d n = s.serves c d n := by
  obtain ⟨hstate, hdir, hlane, _⟩ := work_same h
  unfold State.serves Channel.running
  rw [hstate, hdir, hlane]

theorem State.slot_work {s t : State} {c : ChanId} (h : (t.chan c).work = (s.chan c).work) (k : Nat) :
    t.slot c k = s.slot c k := by
  obtain ⟨_, _, _, _, _, _, hslots⟩ := work_same h
  unfold State.slot Channel.slot
  rw [hslots]

/-- What the laws of a lane speak of, in the lane's record: not its timer limits, masks and mirror lines. -/
structure SameWork (l m : Lane) : Prop where
  mode : l.mode = m.mode
  turn : l.turn.turn = m.turn.turn
  snd : l.snd = m.snd
  rcv : l.rcv = m.rcv

theorem SameWork.refl (l : Lane) : SameWork l l := ⟨rfl, rfl, rfl, rfl⟩

theorem RecvHalf.same {s t : State} {n : LaneId} (h : RecvHalf s n) (hrcv : (t.lane n).rcv = (s.lane n).rcv)
    (hwork : ∀ c, (t.chan c).work = (s.chan c).work) : RecvHalf t n := by
  refine ⟨by rw [hrcv]; exact h.shape, fun c hc => ?_, fun c hc k hk => ?_, fun p hp => ?_, fun c hc => ?_⟩
  · rw [State.serves_work (hwork c)] at hc
    exact (h.tracked c hc).congr (hwork c)
  · rw [State.serves_work (hwork c)] at hc
    rw [State.slot_work (hwork c)] at hk
    rw [hrcv]
    exact h.filling c hc k hk
  · rw [hrcv] at hp
    rw [State.serves_work (hwork _), State.slot_work (hwork _), hrcv]
    exact h.record.1 p hp
  · rw [hrcv] at hc
    rw [State.serves_work (hwork _)]
    exact h.record.2 c hc

theorem SendHalf.same {s t : State} {n : LaneId} (h : SendHalf s n) (hsnd : (t.lane n).snd = (s.lane n).snd)
    (hwork : ∀ c, (t.chan c).work = (s.chan c).work) : SendHalf t n := by
  refine ⟨by rw [hsnd]; exact h.shape, fun c hc => ?_, fun e he => ?_, fun c hc k => ?_, fun c hc k => ?_, fun p hp => ?_⟩
  · rw [State.serves_work (hwork c)] at hc
    exact (h.tracked c hc).congr (hwork c)
  · rw [hsnd] at he
    rw [State.serves_work (hwork _)]
    exact h.queued e he
  · rw [State.serves_work (hwork c)] at hc
    rw [hsnd, State.slot_work (hwork c)]
    exact h.count c hc k
  · rw [State.serves_work (hwork c)] at hc
    rw [hsnd, State.slot_work (hwork c)]
    exact h.sending c hc k
  · rw [hsnd] at hp
    rw [State.serves_work (hwork _), State.slot_work (hwork _)]
    exact h.current p hp

theorem LaneModes.same {l m : Lane} (h : LaneModes m) (hsame : SameWork l m) : LaneModes l := by
  obtain ⟨hmode, hturn, hsnd, hrcv⟩ := hsame
  obtain ⟨hunturned, hturned, hsilent, hdeaf⟩ := h
  refine ⟨?_, ?_, ?_, ?_⟩
  · rwa [hmode, hturn]
  · rwa [hmode, hturn, hsnd]
  · rwa [hmode, hsnd]
  · rwa [hmode, hrcv]

theorem LaneLaw.same {s t : State} {n : LaneId} (h : LaneLaw s n) (hlane : SameWork (t.lane n) (s.lane n))
    (hwork : ∀ c, (t.chan c).work = (s.chan c).work) : LaneLaw t n where
  recv := h.recv.same hlane.rcv hwork
  send := h.send.same hlane.snd hwork
  rest := by
    unfold LaneRests
    rw [hlane.rcv]
    exact h.rest
  modes := h.modes.same hlane

/-! ### The blocks between a grant and its cycle -/

/-- No internal requester has a memory cycle in progress, and no write is held. -/
structure Quiet (s : State) : Prop where
  writer : s.nu.writer.inCycle = false
  snd : ∀ n, (s.lane n).snd.mover.inCycle = false
  rcv : ∀ n, (s.lane n).rcv.mover.inCycle = false

theorem LaneEvent.quiet {s t : State} (hev : LaneEvent s t) (h : Quiet s) : Quiet t where
  writer := hev.writing.trans h.writer
  snd n := (hev.sndCycle n).trans (h.snd n)
  rcv n := (hev.rcvCycle n).trans (h.rcv n)

/-- While the memory port is FREE no requester has a cycle in progress (R146, R150). -/
theorem PortLaw.quiet {s : State} (h : PortLaw s) (hfree : s.arb.port = none) : Quiet s := by
  have howner : s.portOwner = none := by
    unfold State.portOwner
    rw [hfree]
    rfl
  rw [portLaw_iff, howner] at h
  obtain ⟨_, hwriter, hmovers⟩ := h
  refine ⟨?_, fun n => ?_, fun n => ?_⟩
  · exact Bool.eq_false_iff.mpr fun hc => nomatch hwriter.mpr hc
  · exact Bool.eq_false_iff.mpr fun hc => nomatch (hmovers n).1.mpr hc
  · exact Bool.eq_false_iff.mpr fun hc => nomatch (hmovers n).2.mpr hc

/-- What a setup write keeps: the laws of the blocks, with no internal cycle in progress and no write held. -/
structure Blocks (s : State) : Prop extends Core s, Quiet s where
  guard : s.guard = ⟨none, none⟩

/-- An event that does nothing that the laws of the lanes speak of. -/
theorem Core.sameWork {s t : State} (h : Core s) (hev : LaneEvent s t) (hlane : ∀ n, SameWork (t.lane n) (s.lane n))
    (hwork : ∀ c, (t.chan c).work = (s.chan c).work) : Core t :=
  h.laneEvent hev (fun c _ => (work_same (hwork c)).2.2.2.2.2.2) fun n => (h.lanes n).same (hlane n) hwork

theorem Blocks.sameWork {s t : State} (h : Blocks s) (hev : LaneEvent s t) (hlane : ∀ n, SameWork (t.lane n) (s.lane n))
    (hwork : ∀ c, (t.chan c).work = (s.chan c).work) : Blocks t :=
  ⟨h.toCore.sameWork hev hlane hwork, hev.quiet h.toQuiet, hev.guard.trans h.guard⟩

/-- A report of the notice unit (R164). -/
theorem Blocks.generate {s : State} (h : Blocks s) (kind : NoticeKind) (source slot seq : Byte) (detail : BitVec 16) :
    Blocks (s.generate kind source slot seq detail) := by
  refine h.sameWork (.generate ..) (fun n => ?_) fun c => ?_
  · rw [State.generate_eq]
    exact .refl _
  · rw [State.generate_eq]
    rfl

theorem Blocks.setupRejected {s : State} (h : Blocks s) (source : Byte) (reason : BitVec 16) :
    Blocks (s.setupRejected source reason) := h.generate ..

/-- A lane takes other limits, masks or mirror lines. -/
theorem Blocks.setLane {s : State} (h : Blocks s) {n : LaneId} {l : Lane} (hl : SameWork l (s.lane n)) :
    Blocks (s.setLane n l) := by
  refine h.sameWork (.setLane hl.mode (by rw [hl.snd]) (by rw [hl.rcv])) (fun k => ?_) fun _ => rfl
  rw [State.lane_setLane]
  split
  · rename_i hk
    exact hk ▸ hl
  · exact .refl _

/-! ### Channels (R39 to R43, R46, R52) -/

/-- A channel that is not RUNNING takes another record that is not. -/
theorem Core.setChan_off {s : State} (h : Core s) {c : ChanId} {ch : Channel} (hold : (s.chan c).state ≠ .running)
    (hnew : ch.state ≠ .running) (hslots : ch.slots = []) : Core (s.setChan c ch) := by
  have hchan : ∀ d, ((s.setChan c ch).chan d).state = .running → (s.setChan c ch).chan d = s.chan d ∧
      (s.chan d).state = .running := by
    intro d hd
    rw [State.chan_setChan] at hd ⊢
    split at hd
    · exact absurd hd hnew
    · rename_i hcd
      rw [if_neg hcd]
      exact ⟨rfl, hd⟩
  have hserves : ∀ d dir n, (s.setChan c ch).serves d dir n = s.serves d dir n := by
    intro d dir n
    by_cases hcd : c = d
    · subst hcd
      rw [State.serves_of_not_running hold, State.serves_of_not_running (by rw [State.chan_setChan_same]; exact hnew)]
    · exact State.serves_congr (State.chan_setChan_of_ne s (Ne.symm hcd) ch) ..
  refine ⟨h.ring.congr rfl rfl, h.place, fun d hd => ?_, h.partner, fun d hd => ?_, fun n => (h.lanes n).congr rfl
    (fun d dir => hserves d dir n) fun d dir hd => State.chan_setChan_of_ne s ?_ ch⟩
  · obtain ⟨heq, hrun⟩ := hchan d hd
    rw [heq]
    obtain ⟨h1, h2, h3, h4, h5, h6, h7, h8, h9, h10, hothers⟩ := h.channels d hrun
    refine ⟨h1, h2, h3, h4, h5, h6, h7, h8, h9, h10, fun e he hrun' => ?_⟩
    obtain ⟨heq', hrun''⟩ := hchan e hrun'
    rw [heq']
    exact hothers e he hrun''
  · rw [State.chan_setChan] at hd ⊢
    split
    · exact hslots
    · rename_i hcd
      rw [if_neg hcd] at hd
      exact h.empty d hd
  · rintro rfl
    rw [State.serves_of_not_running hold] at hd
    cases hd

theorem Blocks.setChan_off {s : State} (h : Blocks s) {c : ChanId} {ch : Channel} (hold : (s.chan c).state ≠ .running)
    (hnew : ch.state ≠ .running) (hslots : ch.slots = []) : Blocks (s.setChan c ch) :=
  ⟨h.toCore.setChan_off hold hnew hslots, ⟨h.writer, h.snd, h.rcv⟩, h.guard⟩

/-- A channel takes another GUARD, stall limit or enables, in any state (R41, R43, R52). -/
theorem Blocks.setChan_limits {s : State} (h : Blocks s) {c : ChanId} {ch : Channel}
    (hch : ch = { s.chan c with guard := ch.guard, stallLimit := ch.stallLimit, enables := ch.enables })
    (hguard : (s.chan c).state = .running → ch.guard ≠ 3) : Blocks (s.setChan c ch) := by
  have hwork : ∀ d, ((s.setChan c ch).chan d).work = (s.chan d).work := by
    intro d
    rw [State.chan_setChan]
    split
    · rename_i hcd
      rw [hch, hcd]
      rfl
    · rfl
  have hplace : ∀ d, ((s.setChan c ch).chan d).extent = (s.chan d).extent ∧
      ((s.setChan c ch).chan d).base = (s.chan d).base ∧ ((s.setChan c ch).chan d).size = (s.chan d).size ∧
      ((s.setChan c ch).chan d).route = (s.chan d).route := by
    intro d
    rw [State.chan_setChan]
    split
    · rename_i hcd
      rw [hch, hcd]
      exact ⟨rfl, rfl, rfl, rfl⟩
    · exact ⟨rfl, rfl, rfl, rfl⟩
  refine ⟨⟨h.ring.congr rfl rfl, h.place, fun d hd => ?_, h.partner, fun d hd => ?_,
    fun n => (h.lanes n).same (.refl _) hwork⟩, ⟨h.writer, h.snd, h.rcv⟩, h.guard⟩
  · obtain ⟨hstate, hdir, hlane, hcount, hcode, _, _⟩ := work_same (hwork d)
    obtain ⟨hextent, hbase, hsize, hroute⟩ := hplace d
    rw [hstate] at hd
    obtain ⟨h1, h2, h3, h4, h5, h6, h7, h8, h9, h10, hothers⟩ := h.channels d hd
    rw [hcount, hcode, hextent, hbase, hsize, hlane, hdir, hroute]
    refine ⟨h1, ?_, h3, h4, h5, h6, h7, h8, h9, h10, fun e he hrun => ?_⟩
    · rw [State.chan_setChan]
      split
      · rename_i hcd
        exact hguard (hcd ▸ hd)
      · exact h2
    · obtain ⟨hstate', hdir', hlane', _⟩ := work_same (hwork e)
      obtain ⟨hextent', _, _, hroute'⟩ := hplace e
      rw [hextent', hlane', hdir', hroute']
      exact hothers e he (hstate' ▸ hrun)
  · obtain ⟨hstate, _, _, _, _, _, hslots⟩ := work_same (hwork d)
    rw [hslots]
    exact h.empty d (hstate ▸ hd)

/-! ### The ring (R29, R31, R170, R172) -/

/-- The device block and the notice unit change. -/
theorem Blocks.setRing {s : State} (h : Blocks s) {v : DeviceShadow} {x : NoticeUnit} (hactive : v.active = s.dev.active)
    (hring : RingLaw { s with dev := v, nu := x }) (hwriter : x.writer.inCycle = false)
    (hplace : RingPlaceLaw { s with dev := v, nu := x })
    (hfits : v.ringSize ≠ 0 → ∀ c, (s.chan c).state = .running →
      (s.chan c).extent.overlaps (ringExtent v.ringBase v.ringSize) = false) : Blocks { s with dev := v, nu := x } := by
  refine ⟨⟨hring, hplace, fun c hc => ?_, h.partner, h.empty, fun n => (h.lanes n).same (.refl _) fun _ => rfl⟩,
    ⟨hwriter, h.snd, h.rcv⟩, h.guard⟩
  obtain ⟨h1, h2, h3, h4, h5, h6, h7, h8, h9, h10, hothers⟩ := h.channels c hc
  exact ⟨hactive.trans h1, h2, h3, h4, h5, h6, h7, h8, fun h0 => hfits h0 c hc, h10, hothers⟩

/-- Only the notice unit changes. -/
theorem Blocks.setNu {s : State} (h : Blocks s) {x : NoticeUnit} (hring : RingLaw { s with nu := x })
    (hwriter : x.writer.inCycle = false) : Blocks { s with nu := x } :=
  h.setRing rfl hring hwriter h.place fun h0 c hc => (h.channels c hc).2.2.2.2.2.2.2.2.1 h0

end Sys2Proof.Machine
end

section
/-! SUPPORT. The setup writes keep the laws of the blocks: the ring, the channels and their stop, the modes, device control and
the restart (chapters 2, 3, 5 and 10). -/

namespace Sys2Proof.Machine

/-! ### Lanes and blocks in reset (R32, R89, R105, R124) -/

/-- A lane whose sides are reset and that no channel serves (R89, R102). -/
theorem LaneLaw.fresh {s : State} {n : LaneId} {timer : Option Nat} (hsnd : (s.lane n).snd = SendSide.reset)
    (hrcv : (s.lane n).rcv = { RecvSide.reset with byteTimer := timer })
    (hduplex : (s.lane n).mode = .duplex → (s.lane n).turn.turn ≠ .out)
    (hother : (s.lane n).mode ≠ .duplex → (s.lane n).turn.turn = .idle ∧ timer = none)
    (hnone : ∀ c d, s.serves c d n = false) : LaneLaw s n := by
  refine ⟨⟨.of_reset hrcv fun c => hnone c _, .of_reset hsnd fun c => hnone c _⟩, fun _ => ?_, fun hm => (hother hm).1,
    fun hm => ⟨fun ho => absurd ho (hduplex hm), fun hw => ?_⟩, fun _ => hsnd, fun hm => ?_⟩
  · rw [hrcv]
    rfl
  · rw [hsnd] at hw
    rcases hw with hw | hw <;> cases hw
  · rw [hrcv, (hother (by rcases hm with hm | hm <;> rw [hm] <;> exact nofun)).2]
    rfl

/-- The blocks in reset, whatever their mirror lines (R32, R35, R155). -/
theorem Blocks.of_reset {s : State} (hdev : s.dev = State.reset.dev) (hnu : s.nu = State.reset.nu)
    (hguard : s.guard = State.reset.guard) (hchan : ∀ c, s.chan c = Channel.reset)
    (hlane : ∀ n, SameWork (s.lane n) Lane.reset) : Blocks s := by
  have hoff : ∀ c, (s.chan c).state ≠ .running := fun c => by rw [hchan]; exact nofun
  refine ⟨⟨?_, ?_, fun c hc => absurd hc (hoff c), fun n hn => ?_, fun c _ => by rw [hchan]; rfl, fun n => ?_⟩,
    ⟨by rw [hnu]; rfl, fun n => by rw [(hlane n).snd]; rfl, fun n => by rw [(hlane n).rcv]; rfl⟩, hguard⟩
  · exact RingLaw.congr (s := State.reset) (by decide) hnu (by rw [hdev])
  · rw [RingPlaceLaw, hdev]
    exact ⟨rfl, fun h => absurd rfl h⟩
  · rw [(hlane n).mode] at hn
    cases hn
  · refine .fresh (timer := none) (hlane n).snd (hlane n).rcv (fun hn => ?_) (fun _ => ⟨(hlane n).turn, rfl⟩)
      fun c d => State.serves_of_not_running (hoff c) d n
    rw [(hlane n).mode] at hn
    cases hn

/-! ### The ring (R29, R31, R170, R172) -/

theorem Blocks.takeConsumer {s : State} (h : Blocks s) (be : Enables) (data : Word) : Blocks (s.takeConsumer be data) := by
  have hring := (RingKept.takeConsumer s be data).ring h.ring
  unfold State.takeConsumer at hring ⊢
  dsimp only at hring ⊢
  split
  · rename_i haccept
    rw [if_pos haccept] at hring
    obtain ⟨v, hv⟩ : ∃ v : State,
        v = s.withNu { s.nu with cons := field (mergeBytes be (place 0 s.nu.cons) data) 0 16 } := ⟨_, rfl⟩
    rw [← hv] at hring ⊢
    have hwriter : v.startWriter.nu.writer.inCycle = false := by
      rw [State.startWriter_inCycle, hv]
      exact h.writer
    have heq : v.startWriter = { s with nu := v.startWriter.nu } := by
      rw [State.startWriter_eq, hv]
      rfl
    rw [heq] at hring ⊢
    exact h.setNu hring hwriter
  · exact h

theorem Blocks.takeDeviceStatus {s : State} (h : Blocks s) (be : Enables) (data : Word) :
    Blocks (s.takeDeviceStatus be data) := by
  unfold State.takeDeviceStatus
  split
  · exact h.setNu h.ring h.writer
  · exact h

/-- A ring change (R172), to a base on a record boundary. -/
theorem Blocks.ringChange {s : State} (h : Blocks s) {base : Addr} (hbase : base.toNat % 8 = 0) (size : BitVec 3) :
    Blocks (s.ringChange base size) := by
  cases hcheck : s.ringCheck base size with
  | some reason =>
    unfold State.ringChange
    rw [hcheck]
    exact h.setupRejected ..
  | none =>
    have h7 : size ≠ 7 := by
      rintro rfl
      cases (State.ringCheck_some (.inl ⟨rfl, rfl⟩)).symm.trans hcheck
    have hfits : size ≠ 0 → RingFits s base size := by
      intro h0
      by_contra hnot
      by_cases hempty : s.nu.prod = s.nu.cons
      · cases (State.ringCheck_some (.inr (.inr ⟨rfl, h7, hempty, h0, hnot⟩))).symm.trans hcheck
      · cases (State.ringCheck_some (.inr (.inl ⟨rfl, h7, hempty⟩))).symm.trans hcheck
    have hring := State.ringChange_ring h.ring hcheck
    have heq : s.ringChange base size = ((s.withDev { s.dev with ringBase := base, ringSize := size }).withNu
        { s.nu with prod := 0, cons := 0, writer := .idle }).startWriter := by
      unfold State.ringChange
      rw [hcheck]
    have hwriter := State.startWriter_inCycle ((s.withDev { s.dev with ringBase := base, ringSize := size }).withNu
      { s.nu with prod := 0, cons := 0, writer := .idle })
    rw [heq]
    rw [State.startWriter_eq] at hring hwriter ⊢
    refine h.setRing rfl hring hwriter ⟨hbase, fun h0 => ?_⟩ fun h0 c hc => ?_
    · exact ⟨(hfits h0).1, (hfits h0).2.1⟩
    · rw [Extent.overlaps_comm]
      exact (hfits h0).2.2 c hc

theorem Blocks.takeRingBase {s : State} (h : Blocks s) (be : Enables) (data : Word) : Blocks (s.takeRingBase be data) := by
  unfold State.takeRingBase
  dsimp only
  split
  · exact h
  · refine h.ringChange ?_ _
    unfold State.presentedBase
    rw [BitVec.toNat_and, ← Nat.and_two_pow_sub_one_eq_mod _ 3, Nat.and_assoc]
    exact Nat.and_zero _

theorem Blocks.takeRingSize {s : State} (h : Blocks s) (size : BitVec 3) : Blocks (s.takeRingSize size) := by
  unfold State.takeRingSize
  split
  · exact h
  · exact h.ringChange h.place.1 size

/-! ### Running a channel (R44, R46, R47) -/

/-- A check that has found no failure has passed here and after. -/
theorem of_ite_none {α : Type} {p : Prop} [Decidable p] {a : α} {x : Option α} (h : (if p then some a else x) = none) :
    ¬p ∧ x = none := by
  by_cases hp : p
  · rw [if_pos hp] at h
    cases h
  · rw [if_neg hp] at h
    exact ⟨hp, h⟩

/-- What a passed run validation says (R44). -/
theorem State.runCheck_none {s : State} {c : ChanId} (h : s.runCheck c = none) :
    s.dev.active = true ∧ (s.chan c).guard ≠ 3 ∧ (s.chan c).geometryValid = true ∧ (s.chan c).aligned = true ∧
    (s.chan c).inRange = true ∧ (s.chan c).extent.overlaps s.setupExtent = false ∧
    (s.dev.ringSize ≠ 0 → (s.chan c).extent.overlaps (ringExtent s.dev.ringBase s.dev.ringSize) = false) ∧
    modeCarries (s.lane (s.chan c).lane).mode (s.chan c).dir = true ∧
    ∀ d, d ≠ c → (s.chan d).state = .running → (s.chan c).extent.overlaps (s.chan d).extent = false ∧
      ¬((s.chan d).lane = (s.chan c).lane ∧ (s.chan d).dir = (s.chan c).dir ∧ (s.chan d).route = (s.chan c).route) := by
  have hothers : ∀ {p : Channel → Bool}, ¬s.anotherRunning c p = true → ∀ d, d ≠ c → (s.chan d).state = .running →
      p (s.chan d) = false := by
    intro p hnone d hd hrun
    by_contra hp
    refine hnone (List.any_eq_true.mpr ⟨d, mem_allChans d, ?_⟩)
    rw [Bool.and_eq_true, Bool.and_eq_true, bne_iff_ne, Channel.running_iff]
    exact ⟨⟨hd, hrun⟩, Bool.not_eq_false _ ▸ hp⟩
  unfold State.runCheck at h
  dsimp only at h
  obtain ⟨hactive, h⟩ := of_ite_none h
  obtain ⟨hguard, h⟩ := of_ite_none h
  obtain ⟨hgeometry, h⟩ := of_ite_none h
  obtain ⟨haligned, h⟩ := of_ite_none h
  obtain ⟨hrange, h⟩ := of_ite_none h
  obtain ⟨hsetup, h⟩ := of_ite_none h
  obtain ⟨hring, h⟩ := of_ite_none h
  obtain ⟨hoverlap, h⟩ := of_ite_none h
  obtain ⟨hmode, h⟩ := of_ite_none h
  obtain ⟨hroute, _⟩ := of_ite_none h
  rw [Bool.not_eq_true', Bool.not_eq_false] at hactive hgeometry haligned hrange hmode
  refine ⟨hactive, hguard, hgeometry, haligned, hrange, Bool.eq_false_iff.mpr hsetup,
    fun h0 => Bool.eq_false_iff.mpr fun ho => hring ⟨h0, ho⟩, hmode, fun d hd hrun => ⟨hothers hoverlap d hd hrun, ?_⟩⟩
  have hapart := hothers hroute d hd hrun
  rintro ⟨hlane, hdir, hr⟩
  rw [hlane, hdir, hr, beq_self_eq_true, beq_self_eq_true, beq_self_eq_true] at hapart
  cases hapart

/-- Every slot of an accepted channel is FREE (R46). -/
theorem Channel.accept_slot (ch : Channel) (k : Nat) : ch.accept.slot k = SlotRec.free := by
  unfold Channel.slot
  change (List.replicate ch.count.toNat SlotRec.free).getD k SlotRec.free = _
  rw [List.getD_eq_getElem?_getD, List.getElem?_replicate]
  split <;> rfl

/-- A run request that passes its validation is accepted (R44, R46). -/
theorem Core.accept {s : State} (h : Core s) {c : ChanId} (hold : (s.chan c).state ≠ .running)
    (hcheck : s.runCheck c = none) : Core (s.setChan c (s.chan c).accept) := by
  obtain ⟨hactive, hguard, hgeometry, haligned, hrange, hsetup, hring, hmode, hothers⟩ := State.runCheck_none hcheck
  obtain ⟨hcode, hmin, hmax⟩ := of_decide_eq_true hgeometry
  obtain ⟨t, ht⟩ : ∃ t : State, t = s.setChan c (s.chan c).accept := ⟨_, rfl⟩
  have hown : t.chan c = (s.chan c).accept := by rw [ht, State.chan_setChan_same]
  have hother : ∀ d, d ≠ c → t.chan d = s.chan d := fun d hd => by rw [ht, State.chan_setChan_of_ne s hd]
  have hserves : ∀ d dir n, d ≠ c → t.serves d dir n = s.serves d dir n := fun d dir n hd => State.serves_congr (hother d hd) ..
  have hunserved : ∀ {d dir n}, s.serves d dir n = true → d ≠ c := fun hd hdc => by
    rw [hdc, State.serves_of_not_running hold] at hd
    cases hd
  have hslot : ∀ k, t.slot c k = SlotRec.free := fun k => by
    unfold State.slot
    rw [hown, Channel.accept_slot]
  have hslot' : ∀ d k, d ≠ c → t.slot d k = s.slot d k := fun d k hd => by
    unfold State.slot
    rw [hother d hd]
  have htracked : t.chan c = (s.chan c).accept → (t.chan c).Tracked := fun heq => by
    rw [heq]
    refine ⟨List.length_replicate, hmin, fun k _ => ?_⟩
    rw [Channel.accept_slot]
    exact ⟨Nat.zero_le _, fun _ => rfl, fun _ => .inl rfl, fun _ => .inl rfl⟩
  have hlane : ∀ n, t.lane n = s.lane n := fun n => by rw [ht]; rfl
  have hrecv : ∀ n, RecvHalf t n := by
    intro n
    obtain ⟨hshape, htrack, hfilling, hrecord⟩ := (h.lanes n).recv
    refine ⟨by rw [hlane]; exact hshape, fun d hd => ?_, fun d hd k hk => ?_, fun p hp => ?_, fun d hd => ?_⟩
    · by_cases hdc : d = c
      · subst hdc
        exact htracked hown
      · rw [hserves d _ n hdc] at hd
        rw [hother d hdc]
        exact htrack d hd
    · by_cases hdc : d = c
      · subst hdc
        rw [hslot] at hk
        cases hk
      · rw [hserves d _ n hdc] at hd
        rw [hslot' d k hdc] at hk
        rw [hlane]
        exact hfilling d hd k hk
    · rw [hlane] at hp
      obtain ⟨hp1, hp2, hp3⟩ := hrecord.1 p hp
      rw [hserves _ _ n (hunserved hp1), hslot' _ _ (hunserved hp1), hlane]
      exact ⟨hp1, hp2, hp3⟩
    · rw [hlane] at hd
      have hd' := hrecord.2 d hd
      rw [hserves _ _ n (hunserved hd')]
      exact hd'
  have hsend : ∀ n, SendHalf t n := by
    intro n
    obtain ⟨hshape, htrack, hqueued, hcount, hsending, hcurrent⟩ := (h.lanes n).send
    refine ⟨by rw [hlane]; exact hshape, fun d hd => ?_, fun e he => ?_, fun d hd k => ?_, fun d hd k => ?_, fun p hp => ?_⟩
    · by_cases hdc : d = c
      · subst hdc
        exact htracked hown
      · rw [hserves d _ n hdc] at hd
        rw [hother d hdc]
        exact htrack d hd
    · rw [hlane] at he
      have he' := hqueued e he
      rw [hserves _ _ n (hunserved he')]
      exact he'
    · rw [hlane]
      by_cases hdc : d = c
      · subst hdc
        rw [hslot, if_neg nofun]
        refine Nat.eq_zero_of_not_pos fun hpos => ?_
        obtain ⟨e, he⟩ := List.exists_mem_of_length_pos hpos
        rw [List.mem_filter, Bool.and_eq_true, beq_iff_eq] at he
        exact hunserved (hqueued e he.1) he.2.1
      · rw [hserves d _ n hdc] at hd
        rw [hslot' d k hdc]
        exact hcount d hd k
    · rw [hlane]
      by_cases hdc : d = c
      · subst hdc
        rw [hslot]
        exact ⟨nofun, fun hp => absurd rfl (hunserved (hcurrent _ hp).1)⟩
      · rw [hserves d _ n hdc] at hd
        rw [hslot' d k hdc]
        exact hsending d hd k
    · rw [hlane] at hp
      obtain ⟨hp1, hp2⟩ := hcurrent p hp
      rw [hserves _ _ n (hunserved hp1), hslot' _ _ (hunserved hp1)]
      exact ⟨hp1, hp2⟩
  have hextent : (t.chan c).extent = (s.chan c).extent := by rw [hown]; rfl
  rw [← ht]
  refine ⟨h.ring.congr (by rw [ht]; rfl) (by rw [ht]; rfl), by rw [ht]; exact h.place, fun d hd => ?_,
    fun n => by rw [hlane, hlane]; exact h.partner n, fun d hd => ?_,
    fun n => ⟨⟨hrecv n, hsend n⟩, by rw [hlane]; exact (h.lanes n).rest, by rw [hlane]; exact (h.lanes n).modes⟩⟩
  · have hdev : t.dev = s.dev := by rw [ht]; rfl
    have harea : t.setupExtent = s.setupExtent := by rw [ht]; rfl
    rw [hdev, harea]
    by_cases hdc : d = c
    · subst hdc
      rw [hextent, hown, hlane]
      refine ⟨hactive, hguard, hcode, hmin, hmax, of_decide_eq_true haligned, of_decide_eq_true hrange, hsetup, hring, hmode,
        fun e he hrun => ?_⟩
      rw [hother e he] at hrun ⊢
      exact hothers e he hrun
    · rw [hother d hdc] at hd ⊢
      rw [hlane]
      obtain ⟨h1, h2, h3, h4, h5, h6, h7, h8, h9, h10, hapart⟩ := h.channels d hd
      refine ⟨h1, h2, h3, h4, h5, h6, h7, h8, h9, h10, fun e he hrun => ?_⟩
      by_cases hec : e = c
      · subst hec
        obtain ⟨hover, hroute⟩ := hothers d hdc hd
        rw [hextent, hown, Extent.overlaps_comm]
        exact ⟨hover, fun ⟨hl, hdir, hr⟩ => hroute ⟨hl.symm, hdir.symm, hr.symm⟩⟩
      · rw [hother e hec] at hrun ⊢
        exact hapart e he hrun
  · by_cases hdc : d = c
    · subst hdc
      rw [hown] at hd
      exact absurd rfl hd
    · rw [hother d hdc] at hd ⊢
      exact h.empty d hd

theorem Blocks.runRequest {s : State} (h : Blocks s) {c : ChanId} (hold : (s.chan c).state ≠ .running) :
    Blocks (s.runRequest c) := by
  unfold State.runRequest
  split
  · rename_i hcheck
    exact ⟨h.toCore.accept hold hcheck, ⟨h.writer, h.snd, h.rcv⟩, h.guard⟩
  · exact (h.setChan_off (ch := { s.chan c with state := .rejected _ }) hold nofun (h.empty c hold)).setupRejected ..

end Sys2Proof.Machine
end

section
/-! SUPPORT. The stop of channels, device control, the mode words and the restart keep the laws of the blocks. -/

namespace Sys2Proof.Machine

/-! ### Stops (R27, R48 to R50) -/

/-- Whether a send side works, or gives its strobe, stands over a stop (R49, R121). -/
theorem SendSide.stopFor_works (x : SendSide) (sel : ChanId → Bool) (now : Nat) :
    ((x.stopFor sel now).cur.isSome = true ∨ (x.stopFor sel now).strobe.isSome = true) ↔
      (x.cur.isSome = true ∨ x.strobe.isSome = true) := by
  cases hcur : x.cur with
  | none =>
    rw [SendSide.stopFor_other (fun q hq => by rw [hcur] at hq; cases hq), hcur]
  | some q =>
    cases hsel : sel q.chan with
    | true =>
      rw [SendSide.stopFor_current hcur hsel]
      exact ⟨fun _ => .inl rfl, fun _ => .inr rfl⟩
    | false =>
      rw [SendSide.stopFor_other (fun r hr => by cases hcur.symm.trans hr; exact hsel), hcur]

/-- The stop of the channels `sel`, with ACTIVE as a control write leaves it: those that go on need it set (R27, R48). -/
theorem Blocks.stopChannels {s g : State} (h : Blocks s) {active : Bool}
    (hg : g = { s with dev := { s.dev with active := active } }) {sel : ChanId → Bool}
    (hactive : ∀ c, (s.chan c).state = .running → sel c = false → active = true) :
    Blocks (g.stopChannels sel) ∧ ∀ c, sel c = true → ((g.stopChannels sel).chan c).state ≠ .running := by
  obtain ⟨run, hrun⟩ : ∃ run : ChanId → Bool, run = fun c => sel c && (s.chan c).running := ⟨_, rfl⟩
  have hrunc : ∀ c, (s.chan c).state = .running → run c = sel c := fun c hc => by
    rw [hrun]
    dsimp only
    rw [(Channel.running_iff _).mpr hc, Bool.and_true]
  have hglane : ∀ n, g.lane n = s.lane n := fun n => by rw [hg]; rfl
  have hgchan : ∀ c, g.chan c = s.chan c := fun c => by rw [hg]; rfl
  have hghalf : ∀ n, RecvHalf g n := fun n => by
    rw [hg]
    exact (h.lanes n).recv.congr rfl (fun _ => rfl) fun _ _ => rfl
  obtain ⟨u, hu⟩ : ∃ u : State, u = g.stopChannels sel := ⟨_, rfl⟩
  have hpass : StopPass g u run [3, 2, 1, 0] := by
    rw [hu]
    exact stopPass_stopChannels hghalf fun c => by rw [hrun, hgchan]
  have hall : ∀ n : LaneId, n ∈ [3, 2, 1, 0] := by decide
  obtain ⟨v, hv⟩ : ∃ v : State, v = g.stopped run := ⟨_, rfl⟩
  have hvframe : v = { g with chans := v.chans } := by rw [hv]; exact State.stopped_eq ..
  have hvchan : ∀ c, v.chan c = if run c = true then (s.chan c).stop else s.chan c := fun c => by
    rw [hv, State.stopped_chan, hgchan]
  have hvlane : ∀ n, v.lane n = s.lane n := fun n => by rw [hv, State.stopped_lane, hglane]
  have hvserves : ∀ c d n, v.serves c d n = (s.serves c d n && !run c) := fun c d n => by
    rw [hv, State.stopped_serves, State.serves_congr (hgchan c)]
  have hevent : LaneEvent v u := hv ▸ hpass.event
  have huchan : ∀ c, (∀ n, v.serves c .inbound n = false) → u.chan c = v.chan c := fun c hc => by
    rw [hv] at hc ⊢
    exact hpass.chan c fun k _ => hc k
  have hkept : ∀ c, (v.chan c).state = .running → v.chan c = s.chan c ∧ run c = false := by
    intro c hc
    rw [hvchan] at hc ⊢
    split at hc
    · cases hc
    · rename_i hr
      exact ⟨if_neg hr, Bool.not_eq_true _ ▸ hr⟩
  have howner : ∀ n, u.lane n = { s.lane n with snd := (s.lane n).snd.stopFor run g.now, rcv := (u.lane n).rcv } := fun n => by
    have hown := hpass.own n (hall n)
    rw [hglane] at hown
    exact hown
  have hchannels : ChannelLaw v := by
    intro c hc
    obtain ⟨heq, hrc⟩ := hkept c hc
    have hcrun : (s.chan c).state = .running := heq ▸ hc
    obtain ⟨_, h2, h3, h4, h5, h6, h7, h8, h9, h10, hapart⟩ := h.channels c hcrun
    rw [heq, hvlane]
    have hdev : v.dev = { s.dev with active := active } := by rw [hvframe, hg]
    have harea : v.setupExtent = s.setupExtent := by rw [hvframe, hg]; rfl
    rw [hdev, harea]
    refine ⟨hactive c hcrun (by rw [← hrunc c hcrun]; exact hrc), h2, h3, h4, h5, h6, h7, h8, h9, h10, fun d hd hdrun => ?_⟩
    obtain ⟨heq', _⟩ := hkept d hdrun
    rw [heq'] at hdrun ⊢
    exact hapart d hd hdrun
  have hsend : ∀ n, SendHalf u n := by
    intro n
    refine (h.lanes n).send.stopped (v := u) (sel := run) (now := g.now) (fun c => ?_) (fun c hc => ?_) (by rw [howner])
    · rw [serves_same (hevent.setup c), hvserves]
    · rw [serves_same (hevent.setup c)] at hc
      rw [huchan c fun k => State.serves_dir hc nofun]
      exact (hkept c ((v.serves_iff ..).mp hc).1).1
  have hlanes : ∀ n, LaneLaw u n := by
    intro n
    obtain ⟨hhalf, hrest⟩ := hpass.half n (hall n)
    have hlaw := h.lanes n
    refine ⟨⟨hhalf, hsend n⟩, hrest, ?_⟩
    rw [howner]
    refine ⟨hlaw.modes.unturned, fun hm => (hlaw.modes.turned hm).trans (SendSide.stopFor_works ..).symm, fun hm => ?_,
      fun hm => ?_⟩
    · dsimp only
      rw [hlaw.modes.silent hm]
      rfl
    · dsimp only
      have hreset := hlaw.modes.deaf hm
      rw [hpass.empty n (hall n) (by rw [hglane, hreset]; rfl), hglane, hreset]
      rfl
  rw [← hu]
  refine ⟨⟨⟨?_, ?_, ?_, fun n hn => ?_, fun c hc => ?_, hlanes⟩, hevent.quiet ⟨?_, fun n => ?_, fun n => ?_⟩, ?_⟩,
    fun c hc hr => ?_⟩
  · exact hevent.ring (h.ring.congr (by rw [hvframe, hg]) (by rw [hvframe, hg]))
  · refine h.place.congr ?_ ?_ ?_
    · rw [hevent.dev, hvframe, hg]
    · rw [hevent.dev, hvframe, hg]
    · rw [hevent.sbase, hvframe, hg]
  · exact hchannels.congr hevent.setup hevent.mode (by rw [hevent.dev]) (by rw [hevent.dev]) (by rw [hevent.dev]) hevent.sbase
  · rw [hevent.mode, hvlane] at hn ⊢
    exact h.partner n hn
  · obtain ⟨hstate, _⟩ := setup_same (hevent.setup c)
    rw [hstate] at hc
    rw [huchan c fun n => State.serves_of_not_running hc _ n, hvchan]
    rw [hvchan] at hc
    split
    · rfl
    · rename_i hr
      rw [if_neg hr] at hc
      exact h.empty c hc
  · rw [hvframe, hg]
    exact h.writer
  · rw [hvlane]
    exact h.snd n
  · rw [hvlane]
    exact h.rcv n
  · rw [hevent.guard, hvframe, hg]
    exact h.guard
  · obtain ⟨hstate, _⟩ := setup_same (hevent.setup c)
    rw [hstate] at hr
    obtain ⟨heq, hrc⟩ := hkept c hr
    rw [heq] at hr
    rw [hrunc c hr, hc] at hrc
    cases hrc

/-! ### The control word of a channel (R39 to R41, R48) -/

theorem Blocks.takeChanControl {s : State} (h : Blocks s) (c : ChanId) (be : Enables) (data : Word) :
    Blocks (s.takeChanControl c be data) := by
  unfold State.takeChanControl
  dsimp only
  split
  · rename_i hrunning
    have hrun := (Channel.running_iff _).mp hrunning
    split
    · obtain ⟨hstop, hstopped⟩ := h.stopChannels (g := s) (active := s.dev.active) rfl (sel := fun d => d == c)
        fun d hd _ => (h.channels d hd).1
      have hoff := hstopped c (beq_self_eq_true c)
      generalize s.stopChannels (fun d => d == c) = t at hstop hoff ⊢
      refine hstop.setChan_off hoff ?_ ?_
      · unfold Channel.writeGuard
        split <;> exact hoff
      · unfold Channel.writeGuard
        split <;> exact hstop.empty c hoff
    · split
      · rename_i htaken
        refine h.setChan_limits rfl fun _ => ?_
        dsimp only
        intro h3
        have hrefused : (s.chan c).guardTaken 3 = false := rfl
        rw [h3, hrefused, Bool.and_false] at htaken
        cases htaken
      · exact h
  · rename_i hrunning
    have hold : (s.chan c).state ≠ .running := fun hr => hrunning ((Channel.running_iff _).mpr hr)
    have hbind : Blocks (s.setChan c ((s.chan c).bind be data)) := h.setChan_off hold hold (h.empty c hold)
    have hstate : ((s.setChan c ((s.chan c).bind be data)).chan c).state ≠ .running := by
      rw [State.chan_setChan_same]
      exact hold
    split
    · exact hbind.runRequest hstate
    · exact hbind.setChan_off hstate nofun (hbind.empty c hstate)
    · exact hbind

/-! ### Device control (R25 to R29, R32) -/

theorem Blocks.takeActive {s : State} (h : Blocks s) (active : Bool) : Blocks (s.takeActive active) := by
  unfold State.takeActive
  dsimp only
  cases active with
  | false =>
    split
    · exact (h.stopChannels (active := false) rfl fun _ _ hsel => absurd hsel (Bool.noConfusion)).1
    · rename_i hoff
      have hfalse : s.dev.active = false := by simpa using hoff
      rw [← hfalse]
      exact h
  | true =>
    rw [Bool.not_true, Bool.and_false, if_neg Bool.false_ne_true]
    refine ⟨⟨h.ring.congr rfl rfl, h.place, fun c hc => ?_, h.partner, h.empty,
      fun n => (h.lanes n).same (.refl _) fun _ => rfl⟩, ⟨h.writer, h.snd, h.rcv⟩, h.guard⟩
    exact ⟨rfl, (h.channels c hc).2⟩

theorem Blocks.takeIrqPatience {s : State} (h : Blocks s) (w : Word) : Blocks (s.takeIrqPatience w) :=
  h.setRing rfl (h.ring.congr rfl rfl) h.writer h.place fun h0 c hc => (h.channels c hc).2.2.2.2.2.2.2.2.1 h0

/-- The blocks after a restart (R32, R35, R155). -/
theorem State.restartBlocks_reset (s : State) (pins : Pins) : Blocks (s.restartBlocks pins) := by
  have hlane : ∀ n, SameWork ((s.restartBlocks pins).lane n) Lane.reset := by
    intro n
    rw [State.restartBlocks_lane]
    exact ⟨rfl, rfl, rfl, rfl⟩
  rw [State.restartBlocks_eq] at hlane ⊢
  exact .of_reset rfl rfl rfl (fun c => State.reset_chan c) hlane

theorem Blocks.takeControl {s : State} (h : Blocks s) (pins : Pins) (be : Enables) (data : Word) :
    Blocks (s.takeControl pins be data) := by
  unfold State.takeControl
  dsimp only
  split
  · exact s.restartBlocks_reset pins
  · exact ((h.takeActive _).takeIrqPatience _).takeRingSize _

/-! ### Mode words (R88, R89) -/

/-- Lanes that change no more than limits, masks and mirror lines are an event that keeps the laws. -/
theorem LaneEvent.of_sameWork {s t : State} (ht : t = { s with lanes := t.lanes })
    (hlane : ∀ n, SameWork (t.lane n) (s.lane n)) : LaneEvent s t := by
  rw [ht]
  exact { LaneEvent.refl s with
    mode := fun n => (hlane n).mode
    sndCycle := fun n => by
      have hsnd := (hlane n).snd
      rw [ht] at hsnd
      rw [hsnd]
    rcvCycle := fun n => by
      have hrcv := (hlane n).rcv
      rw [ht] at hrcv
      rw [hrcv] }

theorem Blocks.of_sameWork {s t : State} (h : Blocks s) (ht : t = { s with lanes := t.lanes })
    (hlane : ∀ n, SameWork (t.lane n) (s.lane n)) : Blocks t :=
  h.sameWork (.of_sameWork ht hlane) hlane fun c => by rw [ht]; rfl

theorem mate_ne (n : LaneId) : mate n ≠ n := by revert n; decide

theorem mate_mate (n : LaneId) : mate (mate n) = n := by revert n; decide

theorem oddLane_mate (n : LaneId) : oddLane (mate n) = !oddLane n := by revert n; decide

/-- An accepted mode change (R89). -/
theorem Blocks.acceptMode {s : State} (h : Blocks s) (pins : Pins) {n : LaneId} {m : LaneMode} (w : Word)
    (hcheck : s.modeCheck n m = none) : Blocks (s.acceptMode pins n m w) := by
  have hfree : ¬LaneBound s n := fun hb => by rw [State.modeCheck_bound hb] at hcheck; cases hcheck
  have hpartner : ¬PartnerRefuses s n m := fun hp => by rw [State.modeCheck_partner hfree hp] at hcheck; cases hcheck
  obtain ⟨t, ht⟩ : ∃ t : State, t = s.acceptMode pins n m w := ⟨_, rfl⟩
  have hframe : t = { s with lanes := t.lanes } := by rw [ht]; exact State.acceptMode_lanes ..
  obtain ⟨want, hwant⟩ : ∃ b : Bool, b = (m == .duplex && wantLevel pins n) := ⟨_, rfl⟩
  have hlane := s.acceptMode_lane pins n m w rfl hwant
  rw [← ht] at hlane
  have hchan : ∀ c, t.chan c = s.chan c := fun c => by rw [hframe]; rfl
  have hother : ∀ k, k ≠ n → SameWork (t.lane k) (s.lane k) := by
    intro k hk
    rw [hlane, if_neg (Ne.symm hk)]
    exact ⟨rfl, rfl, rfl, rfl⟩
  have hmode : (t.lane n).mode = m := by rw [hlane, if_pos rfl]; rfl
  have hsnd : (t.lane n).snd = SendSide.reset := by rw [hlane, if_pos rfl]; rfl
  have hrcv : (t.lane n).rcv = { RecvSide.reset with
      byteTimer := if want then deadline s.now (s.lane n).byteLimit else none } := by rw [hlane, if_pos rfl]; rfl
  have hturn : (t.lane n).turn.turn = if want then Turn.inn else Turn.idle := by rw [hlane, if_pos rfl]; rfl
  have hwant' : m ≠ .duplex → want = false := fun hm => by rw [hwant, beq_eq_false_iff_ne.mpr hm, Bool.false_and]
  rw [← ht]
  refine ⟨⟨h.ring.congr (by rw [hframe]) (by rw [hframe]),
    h.place.congr (by rw [hframe]) (by rw [hframe]) (by rw [hframe]), fun c hc => ?_, fun k hk => ?_, fun c hc => ?_,
    fun k => ?_⟩, ⟨by rw [hframe]; exact h.writer, fun k => ?_, fun k => ?_⟩, by rw [hframe]; exact h.guard⟩
  · have hdev : t.dev = s.dev := by rw [hframe]
    have harea : t.setupExtent = s.setupExtent := by rw [hframe]; rfl
    rw [hchan] at hc ⊢
    obtain ⟨h1, h2, h3, h4, h5, h6, h7, h8, h9, h10, hapart⟩ := h.channels c hc
    have hcn : (s.chan c).lane ≠ n := fun hl => hfree ⟨c, hc, hl⟩
    rw [hdev, harea, (hother _ hcn).mode]
    refine ⟨h1, h2, h3, h4, h5, h6, h7, h8, h9, h10, fun d hd hrun => ?_⟩
    rw [hchan] at hrun ⊢
    exact hapart d hd hrun
  · by_cases hkn : k = n
    · subst hkn
      rw [hmode] at hk
      subst hk
      rw [(hother _ (mate_ne k)).mode]
      cases hodd : oddLane k with
      | true => exact absurd (.inl ⟨rfl, hodd⟩) hpartner
      | false =>
        refine ⟨rfl, ?_⟩
        by_contra hm
        exact hpartner (.inr (.inl ⟨rfl, hodd, hm⟩))
    · rw [(hother k hkn).mode] at hk
      obtain ⟨hodd, hmirror⟩ := h.partner k hk
      refine ⟨hodd, ?_⟩
      by_cases hmate : mate k = n
      · rw [hmate, hmode]
        by_contra hm
        refine hpartner (.inr (.inr ⟨?_, hm, ?_⟩))
        · rw [← hmate, oddLane_mate, hodd]
          rfl
        · rw [← hmate, mate_mate]
          exact hk
      · rw [(hother _ hmate).mode]
        exact hmirror
  · rw [hchan] at hc ⊢
    exact h.empty c hc
  · by_cases hkn : k = n
    · subst hkn
      refine .fresh hsnd hrcv (fun _ => ?_) (fun hm => ?_) fun c d => ?_
      · rw [hturn]
        split <;> exact nofun
      · rw [hmode] at hm
        rw [hturn, hwant' hm]
        exact ⟨rfl, rfl⟩
      · rw [State.serves_congr (hchan c)]
        exact Bool.eq_false_iff.mpr fun hs => hfree ⟨c, ((s.serves_iff ..).mp hs).1, ((s.serves_iff ..).mp hs).2.2⟩
    · exact (h.lanes k).same (hother k hkn) fun c => by rw [hchan]
  · by_cases hkn : k = n
    · rw [hkn, hsnd]
      rfl
    · rw [(hother k hkn).snd]
      exact h.snd k
  · by_cases hkn : k = n
    · rw [hkn, hrcv]
      rfl
    · rw [(hother k hkn).rcv]
      exact h.rcv k

theorem Blocks.takeLaneMode {s : State} (h : Blocks s) (pins : Pins) (n : LaneId) (be : Enables) (data : Word) :
    Blocks (s.takeLaneMode pins n be data) := by
  unfold State.takeLaneMode
  dsimp only
  split
  · obtain ⟨v, hv⟩ : ∃ v : State, v = s.setLane n ((s.lane n).takeMasks (s.modePresented n be data)) := ⟨_, rfl⟩
    have hblocks : Blocks v := by
      rw [hv]
      exact h.setLane ⟨rfl, rfl, rfl, rfl⟩
    rw [← hv]
    refine hblocks.of_sameWork ?_ fun k => ?_
    · rw [State.noteFreshAll_eq]
    · rw [State.noteFreshAll_lane]
      exact ⟨rfl, rfl, rfl, rfl⟩
  · split
    · exact h.setupRejected ..
    · rename_i hcheck
      exact h.acceptMode pins _ hcheck

/-! ### Every setup word -/

/-- Whatever the owner of a setup word takes from a write, the blocks keep their laws. -/
theorem Blocks.takeSetup {s : State} (h : Blocks s) (pins : Pins) (w : SetupWord) (be : Enables) (data : Word) :
    Blocks (s.takeSetup pins w be data) := by
  have hoff : ∀ {c}, ¬(s.chan c).running = true → (s.chan c).state ≠ .running := fun hr hs =>
    hr ((Channel.running_iff _).mpr hs)
  have hlimits : ∀ c, (s.chan c).state = .running → (s.chan c).guard ≠ 3 := fun c hc => (h.channels c hc).2.1
  cases w with
  | deviceControl => exact h.takeControl ..
  | ringBase => exact h.takeRingBase ..
  | consumerIndex => exact h.takeConsumer ..
  | deviceStatus => exact h.takeDeviceStatus ..
  | laneMode n => exact h.takeLaneMode ..
  | laneTimer n => exact h.setLane ⟨rfl, rfl, rfl, rfl⟩
  | laneMirror n => exact h.setLane ⟨rfl, rfl, rfl, rfl⟩
  | chanControl c => exact h.takeChanControl ..
  | chanBase c =>
    change Blocks (s.takeChanBase c be data)
    unfold State.takeChanBase
    dsimp only
    split
    · exact h
    · rename_i hr
      exact h.setChan_off (hoff hr) (hoff hr) (h.empty c (hoff hr))
  | chanGeometry c =>
    change Blocks (s.takeChanGeometry c be data)
    unfold State.takeChanGeometry
    dsimp only
    split
    · exact h
    · rename_i hr
      exact h.setChan_off (hoff hr) (hoff hr) (h.empty c (hoff hr))
  | chanStall c => exact h.setChan_limits rfl (hlimits c)
  | enableSet c => exact h.setChan_limits rfl (hlimits c)
  | enableClear c => exact h.setChan_limits rfl (hlimits c)
  | producerIndex => exact h
  | laneStatus n => exact h
  | chanStatus c => exact h
  | chanCounts c => exact h
  | unused => exact h

end Sys2Proof.Machine
end

section
/-! SUPPORT. The machine right after a hardware reset meets the laws of the part (O60). -/
namespace Sys2Proof.Machine

/-- Settles O60: with every block in its reset state no channel runs, no side works and nothing is asked for. -/
theorem resetMeetsTheLaws : Obligations.ResetMeetsTheLaws := by
  unfold Obligations.ResetMeetsTheLaws
  have hblocks : Blocks State.reset :=
    .of_reset rfl rfl rfl State.reset_chan fun n => by rw [State.reset_lane]; exact .refl _
  have hport : PortLaw State.reset := by
    refine ⟨?_, ?_, fun n => ?_⟩
    · exact ⟨nofun, nofun⟩
    · exact ⟨nofun, by rintro (h | h) <;> cases h⟩
    · rw [State.reset_lane]
      exact ⟨⟨nofun, by rintro (h | h) <;> cases h⟩, ⟨nofun, by rintro (h | h) <;> cases h⟩⟩
  have hinactive : InactiveLaw State.reset := by
    refine ⟨fun _ => ⟨rfl, rfl, rfl, rfl, fun n => ?_⟩, fun _ => ⟨rfl, rfl⟩⟩
    rw [State.reset_lane]
    exact ⟨rfl, rfl, rfl⟩
  exact hblocks.inv hport ⟨rfl, nofun, nofun⟩ nofun hinactive

end Sys2Proof.Machine
end

section
/-! SUPPORT. The laws over the ends of a granted host access: a memory cycle, an answer, a held write (R6, R9, R12, R74), and what the
class of a waiting access says of the part (R2, R3). -/

namespace Sys2Proof.Machine

/-! ### Outside the blocks -/

/-- The laws of the blocks do not speak of the host port, the memory port, the guard or the clock. -/
theorem Core.outer {s t : State} (h : Core s) (hsbase : t.sbase = s.sbase) (hdev : t.dev = s.dev) (hnu : t.nu = s.nu)
    (hchans : t.chans = s.chans) (hlanes : t.lanes = s.lanes) : Core t := by
  have hchan : ∀ c, t.chan c = s.chan c := fun c => by
    unfold State.chan
    rw [hchans]
  have hlane : ∀ n, t.lane n = s.lane n := fun n => by
    unfold State.lane
    rw [hlanes]
  exact {
    ring := by
      unfold RingLaw
      rw [hdev, hnu]
      exact h.ring
    place := h.place.congr (by rw [hdev]) (by rw [hdev]) hsbase
    channels := h.channels.congr (fun c => by rw [hchan]) (fun n => by rw [hlane]) (by rw [hdev]) (by rw [hdev]) (by rw [hdev])
      hsbase
    partner := fun n => by
      rw [hlane, hlane]
      exact h.partner n
    empty := fun c => by
      rw [hchan]
      exact h.empty c
    lanes := fun n => (h.lanes n).same (by rw [hlane]; exact .refl _) fun c => by rw [hchan] }

/-- The laws do not speak of the commands that wait. -/
theorem Inv.setPending {s : State} (h : Inv s) (rest : List Instr) : Inv { s with pending := rest } :=
  Core.inv (h.core.outer rfl rfl rfl rfl rfl) h.port h.guard h.classes h.inactive

/-- Out of reset, the law of the part that is not active does not speak of the host port and the arbiter (R18). -/
theorem InactiveLaw.outside {s t : State} (h : InactiveLaw s) (hresetn : s.resetn = true)
    (ht : t = { s with freeCount := t.freeCount, host := t.host, guard := t.guard, arb := t.arb })
    (hguard : t.guard = s.guard ∨ t.guard = State.reset.guard) : InactiveLaw t := by
  rw [ht]
  refine ⟨fun hi => ?_, fun hr => ?_⟩
  · obtain ⟨hrest, hblocks⟩ := h.1 hi
    exact ⟨hguard.elim (fun hg => hg.trans hrest) id, hblocks⟩
  · exact absurd (hr.symm.trans hresetn) Bool.false_ne_true

/-- The guard is at rest when no write can be held of the access that is asked for (R82). -/
theorem GuardLaw.rests {s : State} (h : GuardLaw s) (hnot : ∀ r ∈ s.host.port.asked, ∀ x, ¬HeldFor x r) :
    s.guard = ⟨none, none⟩ := by
  obtain ⟨htimer, hfor, _⟩ := h
  have hheld : s.guard.held = none := by
    refine Option.eq_none_iff_forall_not_mem.mpr fun x hx => ?_
    obtain ⟨r, hr, hx⟩ := hfor x hx
    exact hnot r hr x hx
  rw [hheld] at htimer
  have hstopped : s.guard.stallTimer = none := Option.isNone_iff_eq_none.mp (Option.isSome_eq_false_iff.mp htimer.symm)
  calc s.guard = ⟨s.guard.held, s.guard.stallTimer⟩ := rfl
    _ = ⟨none, none⟩ := by rw [hheld, hstopped]

/-! ### The ends of a granted access (R6, R9, R12) -/

/-- The host port's memory cycle is the one access, with no other in progress and no write held (R6, R146). -/
theorem Core.cycle {u : State} (h : Core u) (hquiet : Quiet u) (hguard : u.guard = ⟨none, none⟩) {r : HostRecord}
    {cyc : HostCycle} (hinactive : InactiveLaw (u.memoryCycle r cyc)) : Inv (u.memoryCycle r cyc) := by
  have hwriter : (u.memoryCycle r cyc).nu.writer.inCycle = false := hquiet.writer
  have hsnd : ∀ n, ((u.memoryCycle r cyc).lane n).snd.mover.inCycle = false := hquiet.snd
  have hrcv : ∀ n, ((u.memoryCycle r cyc).lane n).rcv.mover.inCycle = false := hquiet.rcv
  have howner : (u.memoryCycle r cyc).portOwner = some .host := rfl
  have hport : PortLaw (u.memoryCycle r cyc) := by
    rw [portLaw_iff, howner, hwriter]
    refine ⟨⟨fun _ => rfl, fun _ => rfl⟩, ⟨nofun, nofun⟩, fun n => ?_⟩
    rw [hsnd, hrcv]
    exact ⟨⟨nofun, nofun⟩, ⟨nofun, nofun⟩⟩
  have hguard' : (u.memoryCycle r cyc).guard = ⟨none, none⟩ := hguard
  have hlaw : GuardLaw (u.memoryCycle r cyc) := by
    unfold GuardLaw
    rw [hguard']
    exact ⟨rfl, nofun, nofun⟩
  exact Core.inv (h.outer rfl rfl rfl rfl rfl) hport hlaw nofun hinactive

/-- A slot write that is performed (R9). -/
theorem Inv.performWrite {u : State} (h : Inv u) (hactive : u.Active) (hfree : u.arb.port = none) (r : HostRecord)
    (herr : Bool) : Inv (u.performWrite r herr) := by
  have hquiet := h.port.quiet hfree
  have hclear : Core u.clearGuard := h.core.outer rfl rfl rfl rfl rfl
  refine hclear.cycle ⟨hquiet.writer, hquiet.snd, hquiet.rcv⟩ rfl (State.Active.inactiveLaw ⟨hactive.resetn, hactive.bypass⟩)

/-- With no host cycle in progress the owner of the memory port is the same whatever else the host port does (R146). -/
theorem PortLaw.setHost {s t : State} (h : PortLaw s) (hport : s.host.port.inCycle = false) (hport' : t.host.port.inCycle = false)
    (harb : t.arb.port = s.arb.port) (hnu : t.nu = s.nu) (hlanes : t.lanes = s.lanes) : PortLaw t := by
  have hlane : ∀ n, t.lane n = s.lane n := fun n => by
    unfold State.lane
    rw [hlanes]
  have howner : t.portOwner = s.portOwner := by
    unfold State.portOwner
    rw [harb]
  unfold PortLaw at h ⊢
  rw [howner, hport', hnu]
  rw [hport] at h
  exact ⟨h.1, h.2.1, fun n => by rw [hlane]; exact h.2.2 n⟩

/-- A host access that ends with an answer, and nothing held of it (R12, R82). -/
theorem Inv.endAccess {u : State} (h : Inv u) (hactive : u.Active) (hport : u.host.port.inCycle = false) (r : HostRecord)
    (herr : Bool) (data : Option Word) : Inv (u.clearGuard.endAccess r herr data) :=
  Core.inv (h.core.outer rfl rfl rfl rfl rfl) (h.port.setHost hport rfl rfl rfl rfl) ⟨rfl, nofun, nofun⟩ nofun
    (State.Active.inactiveLaw ⟨hactive.resetn, hactive.bypass⟩)

/-- A fault is counted and reported (R80, R81). -/
theorem Inv.faulted {s : State} (h : Inv s) (hactive : s.Active) (c : ChanId) (kind : NoticeKind) (slot seq : Byte)
    (detail : BitVec 16) : Inv ((s.countFault c).chanNotice c kind slot seq detail) := by
  refine LaneEvent.inv (.trans (.countFault ..) (.chanNotice ..)) h hactive (h.core.sameWork
    (.trans (.countFault ..) (.chanNotice ..)) (fun n => ?_) fun d => ?_)
  · rw [State.countFault_chanNotice]
    exact .refl _
  · rw [State.countFault_chanNotice]
    change ((s.setChan c _).chan d).work = _
    rw [State.chan_setChan]
    split
    · rename_i hcd
      rw [← hcd]
      rfl
    · rfl

theorem Inv.guardDiscard {s : State} (h : Inv s) (hactive : s.Active) (c : ChanId) (k w : Nat) (cause : BitVec 2) :
    Inv (s.guardDiscard c k w cause) := h.faulted hactive ..

theorem Inv.commitRefused {s : State} (h : Inv s) (hactive : s.Active) (c : ChanId) (k : Nat) (detail : BitVec 16) :
    Inv (s.commitRefused c k detail) := h.faulted hactive ..

/-- The stall timer's end of a held write (R76). -/
theorem Inv.endStalled {s : State} (h : Inv s) (hactive : s.Active) (hport : s.host.port.inCycle = false) (r : HostRecord)
    (x : HeldWrite) : Inv (s.endStalled r x) := by
  unfold State.endStalled
  cases x.reason with
  | slot =>
    have hev := LaneEvent.guardDiscard s x.chan x.slot x.word 3
    exact (h.guardDiscard hactive ..).endAccess (hev.toSameOutside.active hactive) (hev.cycle.trans hport) ..
  | queue =>
    have hev := LaneEvent.commitRefused s x.chan x.slot 2
    exact (h.commitRefused hactive ..).endAccess (hev.toSameOutside.active hactive) (hev.cycle.trans hport) ..

/-- A write that is held, for the first time or again, or that has run out at once (R43, R74). -/
theorem Inv.holdWrite {s : State} (h : Inv s) (hactive : s.Active) {r : HostRecord} (hport : s.host.port = .waiting r)
    {x : HeldWrite} (hfor : HeldFor x r) : Inv (s.holdWrite r x) := by
  have hcycle : s.host.port.inCycle = false := by
    rw [hport]
    rfl
  have hclass := h.classes r (by rw [hport]; rfl)
  have hclasses : ∀ q ∈ some r, ClassStands s q := by
    intro q hq
    rw [Option.mem_some] at hq
    exact hq ▸ hclass
  have hheldfor : ∀ y ∈ some x, ∃ q ∈ some r, HeldFor y q := by
    intro y hy
    rw [Option.mem_some] at hy
    exact ⟨r, rfl, hy ▸ hfor⟩
  by_cases hheld : s.guard.held = none
  · by_cases hlimit : (s.chan x.chan).stallLimit = 0
    · rw [State.holdWrite_runOut hheld hlimit]
      exact h.endStalled hactive hcycle ..
    · rw [State.holdWrite_first hheld hlimit]
      exact Core.inv (h.core.outer rfl rfl rfl rfl rfl) (h.port.setHost hcycle rfl rfl rfl rfl) ⟨rfl, hheldfor, fun _ => rfl⟩ hclasses
        (State.Active.inactiveLaw ⟨hactive.resetn, hactive.bypass⟩)
  · have htimer : true = s.guard.stallTimer.isSome := by
      rw [← h.guard.1, eq_comm]
      exact Option.isSome_iff_ne_none.mpr hheld
    rw [State.holdWrite_again hheld]
    exact Core.inv (h.core.outer rfl rfl rfl rfl rfl) (h.port.setHost hcycle rfl rfl rfl rfl) ⟨htimer, hheldfor, fun _ => rfl⟩ hclasses
      (State.Active.inactiveLaw ⟨hactive.resetn, hactive.bypass⟩)

/-! ### What the class of a waiting access says (R2, R3) -/

/-- In bypass every access is PLAIN, and in reset none waits (R16, R18). -/
theorem Inv.active_of_class {s : State} (h : Inv s) {r : HostRecord} (hr : r ∈ s.host.port.asked) (hcls : r.cls ≠ .plain) :
    s.Active := by
  obtain ⟨hresetn, hstands⟩ := h.classes r hr
  refine ⟨hresetn, Bool.eq_false_iff.mpr fun hbypass => hcls ?_⟩
  rw [hstands, State.classify, if_pos hbypass]

/-- A write is held only for a slot (R74). -/
theorem HeldFor.active {s : State} (h : Inv s) {r : HostRecord} {x : HeldWrite} (hr : r ∈ s.host.port.asked)
    (hfor : HeldFor x r) : s.Active := by
  refine h.active_of_class hr ?_
  rcases hfor.2 with ⟨hcls, _⟩ | hcls <;> rw [hcls] <;> exact AccessClass.noConfusion

/-- The slot class of an address is that of a RUNNING channel, and names one of its slots (R2). -/
theorem State.classify_slot {s : State} {a : Nat} {c : ChanId} {k : Nat}
    (h : s.classify a = .slotHeader c k ∨ ∃ w, s.classify a = .slotPayload c k w) :
    (s.chan c).state = .running ∧ k < (s.chan c).count.toNat := by
  unfold State.classify at h
  split at h
  · rcases h with h | ⟨_, h⟩ <;> cases h
  · split at h
    · rcases h with h | ⟨_, h⟩ <;> cases h
    · split at h
      · rename_i d howner
        obtain ⟨hrun, hcontains⟩ := State.owner_some howner
        rw [Extent.contains_iff] at hcontains
        have hk : (a - (s.chan d).base.toNat) / (s.chan d).size < (s.chan d).count.toNat := by
          rw [Nat.div_lt_iff_lt_mul (s.chan d).size_pos]
          unfold Channel.extent at hcontains
          dsimp only at hcontains
          omega
        dsimp only at h
        split at h
        · rcases h with h | ⟨_, h⟩ <;> cases h
          exact ⟨hrun, hk⟩
        · rcases h with h | ⟨_, h⟩ <;> cases h
          exact ⟨hrun, hk⟩
      · rcases h with h | ⟨_, h⟩ <;> cases h

/-- An access that waits for a slot (R3). -/
theorem Inv.slotClass {s : State} (h : Inv s) {r : HostRecord} (hr : r ∈ s.host.port.asked) {c : ChanId} {k : Nat}
    (hcls : r.cls = .slotHeader c k ∨ ∃ w, r.cls = .slotPayload c k w) :
    (s.chan c).state = .running ∧ k < (s.chan c).count.toNat := by
  rw [(h.classes r hr).2] at hcls
  exact State.classify_slot hcls

end Sys2Proof.Machine
end

section
/-! SUPPORT. What the guard takes from a slot write keeps the laws of its lane, and every grant of a host access keeps the laws of the
part (chapters 1 and 4). -/

namespace Sys2Proof.Machine

/-! ### Lanes that carry a channel (R44) -/

theorem Core.speaks {s : State} (h : Core s) {c : ChanId} {n : LaneId} (hserves : s.serves c .outbound n = true) :
    ¬((s.lane n).mode = .mirror ∨ (s.lane n).mode = .receive) := by
  obtain ⟨hrun, hdir, rfl⟩ := (s.serves_iff ..).mp hserves
  obtain ⟨_, _, _, _, _, _, _, _, _, hcarries, _⟩ := h.channels c hrun
  rw [hdir] at hcarries
  rintro (hm | hm) <;> rw [hm] at hcarries <;> cases hcarries

theorem Core.hears {s : State} (h : Core s) {c : ChanId} {n : LaneId} (hserves : s.serves c .inbound n = true) :
    ¬((s.lane n).mode = .mirror ∨ (s.lane n).mode = .send) := by
  obtain ⟨hrun, hdir, rfl⟩ := (s.serves_iff ..).mp hserves
  obtain ⟨_, _, _, _, _, _, _, _, _, hcarries, _⟩ := h.channels c hrun
  rw [hdir] at hcarries
  rintro (hm | hm) <;> rw [hm] at hcarries <;> cases hcarries

/-! ### Commits, withdraws and slots given up (R66, R68, R69) -/

/-- A taken commit: its entry joins the queue, and what it makes the lane start keeps the lane's laws (R66, R107). -/
theorem LaneLaw.takeCommit {s : State} {n : LaneId} (h : LaneLaw s n) {c : ChanId} (hserves : s.serves c .outbound n = true)
    (hmode : ¬((s.lane n).mode = .mirror ∨ (s.lane n).mode = .receive)) {k len : Nat} (hk : k < (s.chan c).count.toNat)
    (hstate : (s.slot c k).state = .free ∨ (s.slot c k).state = .failed) (hpos : 1 ≤ len) (hcap : len ≤ (s.chan c).capacity)
    (hroom : (s.lane n).snd.queue.length < 16) : LaneDone s (s.takeCommit c k len) n := by
  obtain ⟨_, _, rfl⟩ := (s.serves_iff ..).mp hserves
  have hstep := h.send.committed hserves hk hstate hpos hcap hroom (s.chan c).seqCtr ((s.chan c).seqCtr + 1)
  rw [State.takeCommit_eq]
  unfold State.appendEntry
  rw [State.setChan_lane]
  dsimp only
  obtain ⟨u, hu⟩ : ∃ u : State, u = (s.setChan c { s.chan c with
      seqCtr := (s.chan c).seqCtr + 1
      slots := (s.chan c).slots.set k ⟨.committed, len, (s.chan c).seqCtr⟩ }).setSnd (s.chan c).lane
        { (s.lane (s.chan c).lane).snd with queue := (s.lane (s.chan c).lane).snd.queue ++ [⟨c, k⟩] } := ⟨_, rfl⟩
  have hlane : u.lane (s.chan c).lane = { s.lane (s.chan c).lane with
      snd := { (s.lane (s.chan c).lane).snd with queue := (s.lane (s.chan c).lane).snd.queue ++ [⟨c, k⟩] } } := by
    rw [hu, State.setSnd_lane_same]
    rfl
  rw [← hu]
  have hdone : LaneDone s u (s.chan c).lane := h.sendDone (hu ▸ hstep) hmode (by rw [hlane])
  rcases LaneMode.speaks hmode with hsend | hduplex
  · rw [hsend]
    dsimp only
    by_cases hrests : (s.lane (s.chan c).lane).snd.cur = none ∧ (s.lane (s.chan c).lane).snd.strobe = none
    · have hsend' : (u.lane (s.chan c).lane).mode = .send := by rw [hlane]; exact hsend
      rw [← State.sendSideFree_send hsend']
      refine hdone.toLaneStep.done (hdone.toLaneHalves.sendSideFree (.inl hsend') (by rw [hlane]; exact hrests.1)
        (by rw [hlane]; exact hrests.2) hdone.rest fun _ => ⟨hdone.modes.unturned ?_, hdone.modes.deaf (.inr hsend')⟩)
      rw [hsend']
      exact LaneMode.noConfusion
    · rw [State.startHead_none _ _ (by rw [hlane]; exact .inr (not_and_or.mp hrests))]
      exact hdone
  · rw [hduplex]
    dsimp only
    split
    · exact hdone.toLaneStep.done hdone.law.decideTurn
    · exact hdone

theorem LaneLaw.takeWithdraw {s : State} {n : LaneId} (h : LaneLaw s n) {c : ChanId} (hserves : s.serves c .outbound n = true)
    (hmode : ¬((s.lane n).mode = .mirror ∨ (s.lane n).mode = .receive)) {k : Nat} (hstate : (s.slot c k).state = .committed) :
    LaneDone s (s.takeWithdraw c k) n := by
  obtain ⟨_, _, rfl⟩ := (s.serves_iff ..).mp hserves
  refine h.sendDone (h.send.takeWithdraw hserves hstate) hmode ?_
  have hlane : ((s.takeWithdraw c k).lane (s.chan c).lane).snd = { (s.lane (s.chan c).lane).snd with
      queue := (s.lane (s.chan c).lane).snd.queue.filter fun e => !(e.chan == c && e.slot == k) } :=
    congrArg Lane.snd (State.setSnd_lane_same ..)
  rw [hlane]

theorem LaneLaw.takeFailedFree {s : State} {n : LaneId} (h : LaneLaw s n) {c : ChanId}
    (hserves : s.serves c .outbound n = true) (hmode : ¬((s.lane n).mode = .mirror ∨ (s.lane n).mode = .receive)) {k : Nat}
    (hstate : (s.slot c k).state = .failed) : LaneDone s (s.takeFailedFree c k) n :=
  h.sendDone (h.send.takeFailedFree hserves hstate) hmode Iff.rfl

/-! ### Releases (R70, R131) -/

/-- A READY slot is released: no record names it (R70, R128). -/
theorem RecvHalf.release {s : State} {n : LaneId} (h : RecvHalf s n) {c : ChanId} (hserves : s.serves c .inbound n = true)
    {k : Nat} (hstate : (s.slot c k).state = .ready) : RecvStep s (s.setSlot c k SlotRec.free) n := by
  obtain ⟨t, ht⟩ : ∃ t : State, t = s.setSlot c k SlotRec.free := ⟨_, rfl⟩
  have hchan : ∀ d, t.chan d = (s.setChan c { s.chan c with slots := (s.chan c).slots.set k SlotRec.free }).chan d :=
    fun d => by rw [ht, State.setSlot]
  have hlane : t.lane n = s.lane n := by
    rw [ht]
    rfl
  have hmove : SlotMove s t c := .of_setChan hchan rfl List.length_set id
  have hput : SlotPut s t c k SlotRec.free := .of_setChan hchan rfl
  have hserves' : ∀ d, t.serves d .inbound n = s.serves d .inbound n := fun d => serves_same (hmove.setup d) ..
  have hfilling : ∀ d j, (s.slot d j).state = .filling → t.slot d j = s.slot d j := by
    intro d j hj
    rw [hput, if_neg]
    rintro ⟨rfl, rfl, _⟩
    rw [hstate] at hj
    cases hj
  rw [← ht]
  refine ⟨⟨by rw [hlane]; exact h.shape, fun d hd => ?_, fun d hd j hj => ?_, fun p hp => ?_, fun d hd => ?_⟩,
    .of_move hmove hserves (x := (s.lane n).rcv) fun j => by rw [State.setRcv_rcv, ht]; rfl⟩
  · rw [hserves'] at hd
    refine hmove.tracked (h.tracked d hd) fun j hj => ?_
    rw [hput]
    split
    · exact ⟨Nat.zero_le _, fun _ => rfl, fun _ => .inl rfl, fun _ => .inl rfl⟩
    · exact (h.tracked d hd).slots j hj
  · rw [hserves'] at hd
    rw [hput] at hj
    split at hj
    · cases hj
    · rw [hlane]
      exact h.filling d hd j hj
  · rw [hlane] at hp
    obtain ⟨hp1, hp2, hp3⟩ := h.record.1 p hp
    rw [hserves', hfilling _ _ hp2, hlane]
    exact ⟨hp1, hp2, hp3⟩
  · rw [hlane] at hd
    rw [hserves']
    exact h.record.2 d hd

/-- With no slot FREE a waiting record waits on (R131). -/
theorem State.slotReleased_none {s : State} {c : ChanId} (h : (s.chan c).findFree = none) : s.slotReleased c = s := by
  unfold State.slotReleased
  rw [h]
  dsimp only
  split
  · rename_i heq
    cases heq
  · rfl

/-- A released slot, and what a waiting record then does (R70, R131). -/
theorem LaneLaw.takeRelease {s : State} {n : LaneId} (h : LaneLaw s n) {c : ChanId} (hserves : s.serves c .inbound n = true)
    (hmode : ¬((s.lane n).mode = .mirror ∨ (s.lane n).mode = .send)) {k : Nat} (hstate : (s.slot c k).state = .ready) :
    LaneDone s (s.takeRelease c k) n := by
  have hstep := h.recv.release hserves hstate
  unfold State.takeRelease
  obtain ⟨t, ht⟩ : ∃ t : State, t = s.setSlot c k SlotRec.free := ⟨_, rfl⟩
  have hlane : t.lane n = s.lane n := by
    rw [ht]
    rfl
  rw [← ht] at hstep ⊢
  have hserves' : t.serves c .inbound n = true := (serves_same (hstep.2.setup c) ..).trans hserves
  have hrest : LaneRests (t.lane n) := by
    rw [hlane]
    exact h.rest
  have hown := ((t.serves_iff ..).mp hserves').2.2
  by_cases hwaits : ∃ ended, (t.lane n).rcv.state = .slotWait c ended
  · obtain ⟨ended, hwait⟩ := hwaits
    cases hfind : (t.chan c).findFree with
    | none =>
      rw [State.slotReleased_none hfind]
      exact h.recvDone hstep hrest hmode
    | some j =>
      have htarget : (t.lane n).rcv.target = none := by
        unfold RecvSide.target
        rw [hwait]
      have hpick := hstep.1.pick hserves' htarget (Channel.free_of_findFree hfind).1
      have hlast := hpick.trans (hpick.1.afterLast ended)
      obtain ⟨hdrain, hrests⟩ := hlast.1.drain
      rw [State.slotReleased_waiting (by rw [hown]; exact hwait) hfind, hown]
      exact h.recvDone (hstep.trans (hlast.trans hdrain)) hrests hmode
  · rw [State.slotReleased_ignored (by rw [hown]; exact not_exists.mp hwaits)]
    exact h.recvDone hstep hrest hmode

end Sys2Proof.Machine
end

section
/-! SUPPORT. Every grant of a host access keeps the laws of the part (R6 to R11, R65 to R77). -/

namespace Sys2Proof.Machine

/-! ### The meaning of a header write (R65) -/

/-- What a meaning says of the slot that it is for (R65). -/
def HeaderMeaning.Fits (m : HeaderMeaning) (dir : Direction) (state : SlotState) (capacity : Nat) : Prop :=
  match m with
  | .commit len => dir = .outbound ∧ state = .free ∧ 1 ≤ len ∧ len ≤ capacity
  | .recommit len => dir = .outbound ∧ state = .failed ∧ 1 ≤ len ∧ len ≤ capacity
  | .withdraw => dir = .outbound ∧ state = .committed
  | .failedFree => dir = .outbound ∧ state = .failed
  | .release => dir = .inbound ∧ state = .ready
  | _ => True

theorem headerMeaning_fits (dir : Direction) (state : SlotState) (len : Option Nat) (capacity : Nat) :
    (headerMeaning dir state len capacity).Fits dir state capacity := by
  unfold headerMeaning
  split
  · trivial
  · split
    · trivial
    · split
      · exact ⟨rfl, rfl, Nat.one_le_iff_ne_zero.mpr ‹_›, ‹_›⟩
      · trivial
  · trivial
  · split
    · exact ⟨rfl, rfl⟩
    · split
      · exact ⟨rfl, rfl, Nat.one_le_iff_ne_zero.mpr ‹_›, ‹_›⟩
      · trivial
  · exact ⟨rfl, rfl⟩
  · trivial
  · exact ⟨rfl, rfl⟩
  · trivial

/-! ### Slot writes (R9, R65 to R74) -/

/-- A host access r at its grant: the laws stand, the memory port is FREE and r waits for a slot (R6). -/
structure SlotGrant (s : State) (r : HostRecord) : Prop extends Inv s where
  active : s.Active
  free : s.arb.port = none
  waiting : s.host.port = .waiting r
  write : r.write = true

/-- What the guard takes from a write that is performed (R9). -/
theorem SlotGrant.perform {s u : State} {r : HostRecord} (h : SlotGrant s r) (hev : LaneEvent s u) (hcore : Core u) (herr : Bool) :
    Inv (u.performWrite r herr) :=
  (hev.inv h.toInv h.active hcore).performWrite (hev.toSameOutside.active h.active) (hev.port.trans h.free) r herr

/-- What the guard takes from a write that an operation of its lane is part of. -/
theorem SlotGrant.performLane {s u : State} {r : HostRecord} (h : SlotGrant s r) (hev : LaneEvent s u) {n : LaneId}
    (hdone : LaneDone s u n) (herr : Bool) : Inv (u.performWrite r herr) :=
  h.perform hev (h.toInv.core.laneStep hev hdone.toLaneFrame hdone.law) herr

/-- A write that waits for a slot is held as the write of that slot (R74). -/
theorem SlotGrant.holdWrite {s : State} {r : HostRecord} (h : SlotGrant s r) {x : HeldWrite}
    (hcls : r.cls = .slotHeader x.chan x.slot ∧ x.word = 0 ∨ r.cls = .slotPayload x.chan x.slot x.word) : Inv (s.holdWrite r x) :=
  h.toInv.holdWrite h.active h.waiting ⟨h.write, hcls⟩

theorem SlotGrant.guardedWrite {s : State} {r : HostRecord} (h : SlotGrant s r) {c : ChanId} {k w : Nat}
    (hcls : r.cls = .slotHeader c k ∧ w = 0 ∨ r.cls = .slotPayload c k w) : Inv (s.guardedWrite r c k w) := by
  have hend : ∀ cause herr, Inv ((s.guardDiscard c k w cause).clearGuard.endAccess r herr none) := by
    intro cause herr
    have hev := LaneEvent.guardDiscard s c k w cause
    refine (h.toInv.guardDiscard h.active ..).endAccess (hev.toSameOutside.active h.active) ?_ ..
    rw [hev.cycle, h.waiting]
    rfl
  unfold State.guardedWrite
  dsimp only
  split
  · exact h.holdWrite hcls
  · split
    · exact hend 2 true
    · exact hend 1 false

/-- A commit refused by the policy or by its length (R67, R77). -/
theorem SlotGrant.commitRefused {s : State} {r : HostRecord} (h : SlotGrant s r) (c : ChanId) (k : Nat) (detail : BitVec 16)
    (herr : Bool) : Inv ((s.commitRefused c k detail).performWrite r herr) :=
  h.perform (.commitRefused ..) (h.toInv.commitRefused h.active ..).core herr

theorem SlotGrant.commitWrite {s : State} {r : HostRecord} (h : SlotGrant s r) {c : ChanId} {k len : Nat}
    (hcls : r.cls = .slotHeader c k) (hdir : (s.chan c).dir = .outbound)
    (hstate : (s.slot c k).state = .free ∨ (s.slot c k).state = .failed) (hpos : 1 ≤ len) (hcap : len ≤ (s.chan c).capacity) :
    Inv (s.commitWrite r c k len) := by
  obtain ⟨hrun, hk⟩ := h.toInv.slotClass (by rw [h.waiting]; rfl) (.inl hcls)
  have hserves : s.serves c .outbound (s.chan c).lane = true := (s.serves_iff ..).mpr ⟨hrun, hdir, rfl⟩
  unfold State.commitWrite
  dsimp only
  split
  · exact h.performLane (.takeCommit ..) ((h.toInv.laneLaw _).takeCommit hserves (h.toInv.core.speaks hserves) hk hstate hpos hcap ‹_›)
      false
  · split
    · exact h.holdWrite (.inl ⟨hcls, rfl⟩)
    · exact h.commitRefused ..

theorem SlotGrant.headerWrite {s : State} {r : HostRecord} (h : SlotGrant s r) {c : ChanId} {k : Nat}
    (hcls : r.cls = .slotHeader c k) : Inv (s.headerWrite r c k (s.headerMeaningOf r c k)) := by
  obtain ⟨hrun, hk⟩ := h.toInv.slotClass (by rw [h.waiting]; rfl) (.inl hcls)
  have hserves : ∀ d, (s.chan c).dir = d → s.serves c d (s.chan c).lane = true := fun d hd =>
    (s.serves_iff ..).mpr ⟨hrun, hd, rfl⟩
  have hlane := h.toInv.laneLaw (s.chan c).lane
  have hfits := headerMeaning_fits (s.chan c).dir (s.slot c k).state (headerLength r.be r.data) (s.chan c).capacity
  change (s.headerMeaningOf r c k).Fits _ _ _ at hfits
  cases hm : s.headerMeaningOf r c k with
  | plain => exact h.perform (.refl s) h.toInv.core false
  | guarded => exact h.guardedWrite (.inl ⟨hcls, rfl⟩)
  | refusedLength => exact h.commitRefused ..
  | commit len =>
    rw [hm] at hfits
    obtain ⟨hdir, hstate, hpos, hcap⟩ := hfits
    exact h.commitWrite hcls hdir (.inl hstate) hpos hcap
  | recommit len =>
    rw [hm] at hfits
    obtain ⟨hdir, hstate, hpos, hcap⟩ := hfits
    exact h.commitWrite hcls hdir (.inr hstate) hpos hcap
  | withdraw =>
    rw [hm] at hfits
    have hout := hserves _ hfits.1
    exact h.performLane (.takeWithdraw ..) (hlane.takeWithdraw hout (h.toInv.core.speaks hout) hfits.2) false
  | failedFree =>
    rw [hm] at hfits
    have hout := hserves _ hfits.1
    exact h.performLane (.setSlot ..) (hlane.takeFailedFree hout (h.toInv.core.speaks hout) hfits.2) false
  | release =>
    rw [hm] at hfits
    have hin := hserves _ hfits.1
    exact h.performLane (.takeRelease ..) (hlane.takeRelease hin (h.toInv.core.hears hin) hfits.2) false

theorem SlotGrant.payloadWrite {s : State} {r : HostRecord} (h : SlotGrant s r) {c : ChanId} {k w : Nat}
    (hcls : r.cls = .slotPayload c k w) : Inv (s.payloadWrite r c k w) := by
  unfold State.payloadWrite
  split
  · exact h.guardedWrite (.inr hcls)
  · exact h.perform (.refl s) h.toInv.core false

/-! ### Every grant (R6) -/

/-- An access that is no slot write takes its memory cycle and does nothing else (R6, R11). -/
theorem Inv.bareCycle {s : State} (h : Inv s) (hfree : s.arb.port = none) {r : HostRecord} (hport : s.host.port = .waiting r)
    (hnot : ∀ x, ¬HeldFor x r) (cyc : HostCycle) : Inv (s.memoryCycle r cyc) := by
  have hresetn := (h.classes r (by rw [hport]; rfl)).1
  refine h.core.cycle (h.port.quiet hfree) (h.guard.rests fun q hq => ?_) (h.inactive.outside hresetn rfl (.inl rfl))
  rw [hport] at hq
  cases hq
  exact hnot

/-- A setup write is applied, and its memory cycle starts (R7). -/
theorem Inv.setupCycle {s : State} (h : Inv s) (hfree : s.arb.port = none) {r : HostRecord} (hport : s.host.port = .waiting r)
    {off : Nat} (hcls : r.cls = .setup off) (pins : Pins) (w : SetupWord) (cyc : HostCycle) :
    Inv ((s.takeSetup pins w r.be r.data).memoryCycle r cyc) := by
  have hactive := h.active_of_class (by rw [hport]; rfl) (by rw [hcls]; exact AccessClass.noConfusion)
  have hguard := h.guard.rests fun q hq => by
    rw [hport] at hq
    cases hq
    rintro x ⟨_, ⟨hx, _⟩ | hx⟩ <;> rw [hcls] at hx <;> cases hx
  have hblocks := Blocks.takeSetup ⟨h.core, h.port.quiet hfree, hguard⟩ pins w r.be r.data
  have hactive' := (RingKept.takeSetup s pins w r.be r.data).toSameOutside.active hactive
  exact hblocks.toCore.cycle hblocks.toQuiet hblocks.guard (State.Active.inactiveLaw ⟨hactive'.resetn, hactive'.bypass⟩)

theorem Inv.grantAccess {s : State} (h : Inv s) (hfree : s.arb.port = none) {r : HostRecord} (hport : s.host.port = .waiting r)
    (pins : Pins) : Inv (s.grantAccess pins r) := by
  have hslot : r.cls ≠ .plain → r.write = true → SlotGrant s r := fun hcls hwrite =>
    ⟨h, h.active_of_class (by rw [hport]; rfl) hcls, hfree, hport, hwrite⟩
  unfold State.grantAccess
  split
  · exact h.setupCycle hfree hport ‹_› ..
  · rename_i hcls hwrite
    exact (hslot (by rw [hcls]; exact AccessClass.noConfusion) hwrite).headerWrite hcls
  · rename_i hcls hwrite
    exact (hslot (by rw [hcls]; exact AccessClass.noConfusion) hwrite).payloadWrite hcls
  · rename_i hread
    exact h.bareCycle hfree hport (fun x hx => Bool.false_ne_true (hread.symm.trans hx.1)) _
  · rename_i hnotSetup hnotHeader hnotPayload hnotRead
    refine h.bareCycle hfree hport ?_ _
    rintro x ⟨hwrite, ⟨hx, _⟩ | hx⟩
    · exact hnotHeader _ _ hx hwrite
    · exact hnotPayload _ _ _ hx hwrite

/-- What a grant does to the arbiter (R148). -/
theorem Inv.countPatience {s : State} (h : Inv s) {r : HostRecord} (hport : s.host.port = .waiting r) : Inv s.countPatience := by
  have hresetn := (h.classes r (by rw [hport]; rfl)).1
  rw [State.countPatience_eq]
  exact Core.inv (h.core.outer rfl rfl rfl rfl rfl) h.port h.guard h.classes (h.inactive.outside hresetn rfl (.inl rfl))

/-- Every command that is the grant of a host access keeps the laws, whatever access it names (R6, R147). -/
theorem Inv.grantWhen {s : State} (h : Inv s) (p : State → HostRecord → Bool) (pins : Pins) : Inv (s.grantWhen p pins) := by
  rcases grantWhen_cases s p pins with ⟨r, hport, hwins, _, heq⟩ | heq
  · have hfree : s.arb.port = none := by
      rw [State.hostWins, Bool.and_eq_true, Bool.and_eq_true, Option.isNone_iff_eq_none] at hwins
      exact hwins.1.1
    rw [heq]
    refine (h.countPatience hport).grantAccess ?_ ?_ pins
    · rw [State.countPatience_eq]
      exact hfree
    · rw [State.countPatience_eq]
      exact hport
  · rw [heq]
    exact h

end Sys2Proof.Machine
end

section
/-! SUPPORT. The grants and completions of internal accesses keep the laws of the part (R115, R119, R120, R133, R136, R139, R146,
R150, R168, R169). -/

namespace Sys2Proof.Machine

/-! ### Whose cycle is in progress (R146) -/

/-- Only the owner of the memory port has a cycle in progress (R146, R150). -/
theorem PortLaw.others {s : State} (h : PortLaw s) {p : PortAccess} (hport : s.arb.port = some p) :
    (p.who ≠ .host → s.host.port.inCycle = false) ∧ (p.who ≠ .notice → s.nu.writer.inCycle = false) ∧
      ∀ n, (p.who ≠ .send n → (s.lane n).snd.mover.inCycle = false) ∧
        (p.who ≠ .recv n → (s.lane n).rcv.mover.inCycle = false) := by
  have howner : s.portOwner = some p.who := by
    unfold State.portOwner
    rw [hport]
    rfl
  rw [portLaw_iff, howner] at h
  simp only [Option.some.injEq] at h
  obtain ⟨hhost, hnotice, hlanes⟩ := h
  refine ⟨fun hne => ?_, fun hne => ?_, fun n => ⟨fun hne => ?_, fun hne => ?_⟩⟩
  · exact Bool.eq_false_iff.mpr fun hc => hne (hhost.mpr hc)
  · exact Bool.eq_false_iff.mpr fun hc => hne (hnotice.mpr hc)
  · exact Bool.eq_false_iff.mpr fun hc => hne ((hlanes n).1.mpr hc)
  · exact Bool.eq_false_iff.mpr fun hc => hne ((hlanes n).2.mpr hc)

/-- With the port FREE and no cycle in progress the port's law stands (R146). -/
theorem PortLaw.of_quiet {s : State} (hfree : s.arb.port = none) (hhost : s.host.port.inCycle = false) (hquiet : Quiet s) :
    PortLaw s := by
  have howner : s.portOwner = none := by
    unfold State.portOwner
    rw [hfree]
    rfl
  rw [portLaw_iff, howner, hhost, hquiet.writer]
  refine ⟨⟨nofun, nofun⟩, ⟨nofun, nofun⟩, fun n => ?_⟩
  rw [hquiet.snd, hquiet.rcv]
  exact ⟨⟨nofun, nofun⟩, ⟨nofun, nofun⟩⟩

/-- A part that is not active has a quiet notice unit and quiet lanes (R16, R18). -/
theorem Inv.active_or {s : State} (h : Inv s) : s.Active ∨
    s.nu = State.reset.nu ∧ ∀ n, (s.lane n).snd = SendSide.reset ∧ (s.lane n).rcv = RecvSide.reset := by
  by_cases hi : s.resetn = false ∨ s.bypass = true
  · obtain ⟨_, _, hnu, _, hlane⟩ := h.inactive.1 hi
    refine .inr ⟨hnu, fun n => ?_⟩
    have hsnd := congrArg Lane.snd (hlane n).1
    have hrcv := congrArg Lane.rcv (hlane n).1
    exact ⟨hsnd, hrcv⟩
  · rw [not_or, Bool.not_eq_false, Bool.not_eq_true] at hi
    exact .inl ⟨hi.1, hi.2⟩

/-- A part with an internal access presented or in progress is active (R16, R18). -/
theorem Inv.active_of_mover {s : State} (h : Inv s) (hbusy : s.nu.writer ≠ .idle ∨
    ∃ n, (s.lane n).snd.mover ≠ .none ∨ (s.lane n).rcv.mover ≠ .none) : s.Active := by
  refine h.active_or.resolve_right ?_
  rintro ⟨hnu, hlane⟩
  rcases hbusy with hw | ⟨n, hm | hm⟩
  · rw [hnu] at hw
    exact hw rfl
  · rw [(hlane n).1] at hm
    exact hm rfl
  · rw [(hlane n).2] at hm
    exact hm rfl

/-- The laws of a part that is active: the blocks' own, the port's, and the guard's with the class of the access that it stands
for. -/
theorem Core.active {s t : State} (h : Inv s) (hactive : s.Active) (hcore : Core t) (hport : PortLaw t) (hhost : t.host = s.host)
    (hguard : t.guard = s.guard) (houtside : SameOutside s t) (hsetup : ∀ c, (t.chan c).setup = (s.chan c).setup) : Inv t := by
  refine hcore.inv hport ?_ (fun r hr => ?_) (houtside.active hactive).inactiveLaw
  · unfold GuardLaw
    rw [hguard, hhost]
    exact h.guard
  · rw [hhost] at hr
    unfold ClassStands
    rw [houtside.resetn, State.classify_congr houtside.bypass houtside.sbase hsetup]
    exact h.classes r hr

/-! ### Internal grants (R146, R149, R150) -/

/-- A side whose mover is busy consumes only where it would consume anyway (R125). -/
theorem RecvSide.consumes_of_busy {x : RecvSide} (h : ({ x with mover := .busy } : RecvSide).consumes = true) :
    x.consumes = true := by
  unfold RecvSide.consumes at h ⊢
  dsimp only at h
  split at h
  · rfl
  · rfl
  · cases h
  · cases h

/-- The requester's own record of its grant keeps the laws of the blocks (R150). -/
theorem Inv.markGranted {s : State} (h : Inv s) {who : Requester} (hp : s.presented who = true) : Core (s.markGranted who) := by
  cases who with
  | host => exact h.core
  | notice =>
    exact h.core.kept (State.markGranted_ring hp h.ring) rfl rfl (fun _ => rfl) (fun _ => rfl) (fun _ _ => rfl) fun n =>
      (h.laneLaw n).same (.refl _) fun _ => rfl
  | send n =>
    have hwaiting : (s.lane n).snd.mover = .waiting := eq_of_beq hp
    have hlane := h.laneLaw n
    obtain ⟨hqueued, hbuffered, hasking, hrecord⟩ := hlane.send.shape
    have hstep : SendStep s (s.markGranted (.send n)) n := by
      refine hlane.send.setSnd ⟨hqueued, hbuffered, fun _ => hasking (.inl hwaiting), fun r hr => ?_, fun hc => ?_⟩ rfl rfl
      · obtain ⟨hpos, hread, hle, hask, hrest⟩ := hrecord.1 r hr
        exact ⟨hpos, hread, hle, fun _ => hask (.inl hwaiting), hrest⟩
      · exact absurd hwaiting (hrecord.2 hc).2.1
    have hne : (s.lane n).snd ≠ SendSide.reset := by
      intro hreset
      rw [hreset] at hwaiting
      cases hwaiting
    have hsnd : ((s.markGranted (.send n)).lane n).snd = { (s.lane n).snd with mover := .busy } :=
      congrArg Lane.snd (State.setSnd_lane_same ..)
    have hdone := hlane.sendDone hstep (hlane.modes.speaks hne) (by rw [hsnd])
    exact h.core.framed h.ring rfl rfl hdone.toLaneFrame hdone.law
  | recv n =>
    have hwaiting : (s.lane n).rcv.mover = .waiting := eq_of_beq hp
    have hlane := h.laneLaw n
    obtain ⟨hbuffered, hgathered, _, hfilling, hclosing, hother⟩ := hlane.recv.shape
    have hstep : RecvStep s (s.markGranted (.recv n)) n := by
      refine hlane.recv.setRcv ⟨hbuffered, hgathered, fun _ => .inr rfl, fun hc _ => hfilling hc (.inl hwaiting), nofun,
        fun h2 h3 => ?_⟩ rfl (fun d hd => hlane.recv.record.2 d hd) fun p hp => (hlane.recv.record.1 p hp).2.2
      exact absurd hwaiting (hother h2 h3).2.1
    have hne : (s.lane n).rcv ≠ RecvSide.reset := by
      intro hreset
      rw [hreset] at hwaiting
      cases hwaiting
    have hrcv : ((s.markGranted (.recv n)).lane n).rcv = { (s.lane n).rcv with mover := .busy } :=
      congrArg Lane.rcv (State.setRcv_lane_same ..)
    have hdone := hlane.recvDone hstep (fun hc => ?_) (hlane.modes.hears hne)
    · exact h.core.framed h.ring rfl rfl hdone.toLaneFrame hdone.law
    · rw [hrcv] at hc ⊢
      exact hlane.rest (RecvSide.consumes_of_busy hc)

/-- The port of a granted requester is its own, and its cycle the only one in progress (R146). -/
theorem PortLaw.granted {s : State} (h : PortLaw s) (hfree : s.arb.port = none) {who : Requester} (hne : who ≠ .host)
    (hp : s.presented who = true) {t : State} {a : MemAccess} (hport : t.arb.port = some ⟨who, a⟩) (hhost : t.host = s.host)
    (hnu : t.nu = (s.markGranted who).nu) (hlane : ∀ n, t.lane n = (s.markGranted who).lane n) : PortLaw t := by
  have hquiet := h.quiet hfree
  have hcycle : s.host.port.inCycle = false := by
    rw [portLaw_iff] at h
    refine Bool.eq_false_iff.mpr fun hc => ?_
    have howner := h.1.mpr hc
    unfold State.portOwner at howner
    rw [hfree] at howner
    cases howner
  have howner : t.portOwner = some who := by
    unfold State.portOwner
    rw [hport]
    rfl
  rw [portLaw_iff, howner, hhost, hcycle, hnu, State.markGranted_nu hp]
  simp only [Option.some.injEq]
  refine ⟨⟨fun hw => absurd hw hne, nofun⟩, ?_, fun n => ?_⟩
  · split
    · rename_i hw
      refine ⟨fun _ => ?_, fun _ => hw⟩
      dsimp only
      split <;> rfl
    · rename_i hw
      exact ⟨fun hw' => absurd hw' hw, fun hc => absurd hc (by rw [hquiet.writer]; exact Bool.false_ne_true)⟩
  · rw [hlane, State.markGranted_lane]
    dsimp only
    constructor
    · split
      · rename_i hw
        exact ⟨fun _ => rfl, fun _ => hw⟩
      · rename_i hw
        exact ⟨fun hw' => absurd hw' hw, fun hc => absurd hc (by rw [hquiet.snd]; exact Bool.false_ne_true)⟩
    · split
      · rename_i hw
        exact ⟨fun _ => rfl, fun _ => hw⟩
      · rename_i hw
        exact ⟨fun hw' => absurd hw' hw, fun hc => absurd hc (by rw [hquiet.rcv]; exact Bool.false_ne_true)⟩

/-- A request of an internal requester is that of an active part (R16, R18). -/
theorem Inv.active_of_presented {s : State} (h : Inv s) {who : Requester} (hne : who ≠ .host) (hp : s.presented who = true) :
    s.Active := by
  refine h.active_of_mover ?_
  cases who with
  | host => exact absurd rfl hne
  | notice =>
    refine .inl fun hidle => ?_
    unfold State.presented at hp
    rw [hidle] at hp
    cases hp
  | send n => exact .inr ⟨n, .inl (by rw [eq_of_beq hp]; exact nofun)⟩
  | recv n => exact .inr ⟨n, .inr (by rw [eq_of_beq hp]; exact nofun)⟩

theorem Inv.grantInternal {s : State} (h : Inv s) (hfree : s.arb.port = none) {p : Fin 9}
    (hp : s.presented (requesterAt p) = true) : Inv (s.grantInternal p) := by
  have hne := requesterAt_ne_host p
  obtain ⟨a, ha⟩ := State.internalAccess_isSome h.ring h.records hne hp
  obtain ⟨count, heq⟩ := State.grantInternal_eq ha
  obtain ⟨hhost, hguard, hdev, hchans⟩ := s.markGranted_frame (requesterAt p)
  have hout : SameOutside s (s.markGranted (requesterAt p)) := (RingKept.markGranted hp).toSameOutside
  rw [heq]
  refine Core.active h (h.active_of_presented hne hp) (Core.outer (h.markGranted hp) rfl rfl rfl rfl rfl)
    (h.port.granted hfree hne hp rfl hhost rfl fun _ => rfl) hhost hguard
    ⟨hout.pending, hout.resetn, hout.sbase, hout.bypass, hout.now⟩ fun c => ?_
  unfold State.chan
  dsimp only
  rw [hchans]

theorem Inv.execMemoryPortGrant {s t : State} (h : Inv s) (ht : exec .memoryPortGrant s = .next t) : Inv t := by
  cases ht
  split
  · rename_i hwins
    have hfree : s.arb.port = none := by
      unfold State.internalWins at hwins
      rw [Bool.and_eq_true, Bool.and_eq_true, Option.isNone_iff_eq_none] at hwins
      exact hwins.1.1
    split
    · rename_i p hp
      exact h.grantInternal hfree (State.presented_of_contends (s.contends_of_candidates (State.nextInternal_mem hp)))
    · exact h
  · exact h

end Sys2Proof.Machine
end

section
/-! SUPPORT. The completions of internal accesses keep the laws of the part (R115, R119, R120, R133, R136, R139, R168, R169). -/

namespace Sys2Proof.Machine

/-! ### The end of a cycle (R146) -/

/-- The end of an internal cycle: v is s with the port FREE and the requester's cycle over, and what the requester then does is an
event of the lanes. -/
theorem Inv.cycleEnd {s v t : State} (h : Inv s) (hactive : s.Active) {p : PortAccess} (hport : s.arb.port = some p)
    (hne : p.who ≠ .host) (hv : v = { s with arb := v.arb, nu := v.nu, lanes := v.lanes }) (hfree : v.arb.port = none)
    (hquiet : Quiet v) (hev : LaneEvent v t) (hcore : Core t) : Inv t := by
  have hcycle : v.host.port.inCycle = false := by
    rw [hv]
    exact (h.port.others hport).1 hne
  have hguard : GuardLaw v := by
    rw [hv]
    exact h.guard
  have hclasses : ClassLaw v := by
    rw [hv]
    intro r hr
    obtain ⟨hresetn, hcls⟩ := h.classes r hr
    exact ⟨hresetn, hcls.trans (State.classify_congr rfl rfl (fun _ => rfl) _)⟩
  have hactive' : v.Active := by
    rw [hv]
    exact ⟨hactive.resetn, hactive.bypass⟩
  exact hcore.inv (.of_quiet (hev.port.trans hfree) (hev.cycle.trans hcycle) (hev.quiet hquiet)) (hev.guardLaw hguard)
    (hev.classLaw hclasses) (hev.toSameOutside.active hactive').inactiveLaw

theorem Inv.freePortCore {s : State} (h : Inv s) : Core s.freePort := h.core.outer rfl rfl rfl rfl rfl

/-- The owner of the port has its cycle in progress (R146). -/
theorem PortLaw.sendBusy {s : State} (h : PortLaw s) {n : LaneId} {a : MemAccess} (hport : s.arb.port = some ⟨.send n, a⟩) :
    (s.lane n).snd.mover = .busy ∨ (s.lane n).snd.mover = .orphaned := by
  refine (h.2.2 n).1.mp ?_
  unfold State.portOwner
  rw [hport]
  rfl

theorem PortLaw.recvBusy {s : State} (h : PortLaw s) {n : LaneId} {a : MemAccess} (hport : s.arb.port = some ⟨.recv n, a⟩) :
    (s.lane n).rcv.mover = .busy ∨ (s.lane n).rcv.mover = .orphaned := by
  refine (h.2.2 n).2.mp ?_
  unfold State.portOwner
  rw [hport]
  rfl

/-! ### The send mover's read (R115, R119, R120) -/

/-- The port FREE and the read of lane n's send mover over. -/
def State.readEnded (s : State) (n : LaneId) : State := s.freePort.setSnd n { (s.lane n).snd with mover := .none }

/-- What a completed read makes its side do keeps the laws when it keeps those of the lane. -/
theorem Inv.sendEnd {s t : State} (h : Inv s) {n : LaneId} {a : MemAccess} (hport : s.arb.port = some ⟨.send n, a⟩)
    (hev : LaneEvent (s.readEnded n) t) (hdone : LaneDone s.freePort t n) : Inv t := by
  obtain ⟨_, hwriter, hlanes⟩ := h.port.others hport
  have hactive : s.Active := h.active_of_mover (.inr ⟨n, .inl (by
    rcases h.port.sendBusy hport with hm | hm <;> (rw [hm]; exact nofun))⟩)
  have hquiet : Quiet (s.readEnded n) := by
    refine ⟨hwriter nofun, fun k => ?_, fun k => ?_⟩
    · unfold State.readEnded
      rw [State.setSnd_lane]
      split
      · rfl
      · rename_i hne
        exact (hlanes k).1 (by rintro ⟨⟩; exact hne rfl)
    · unfold State.readEnded
      rw [State.setSnd_lane]
      split
      · exact (hlanes _).2 nofun
      · exact (hlanes k).2 nofun
  exact h.cycleEnd hactive hport nofun rfl rfl hquiet hev
    (h.freePortCore.framed (hev.ring h.ring) hev.dev hev.sbase hdone.toLaneFrame hdone.law)

/-- A completed read is taken with the mover NONE, or asking again. -/
theorem State.readDone_snd (s : State) (n : LaneId) (q : SendRecord) (data : Word) :
    ∃ x : SendSide, s.readDone n q data = s.setSnd n x ∧ x.mover.inCycle = false ∧ x.cur.isSome = true ∧
      x.strobe = (s.lane n).snd.strobe := by
  unfold State.readDone
  dsimp only
  split
  · refine ⟨_, rfl, SendSide.present_inCycle _, ?_, ?_⟩
    · rw [SendSide.present_frame]
      rfl
    · rw [SendSide.present_frame]
  · obtain ⟨_, hsending, hstrobe⟩ := SendSide.offerNext_frame { (s.lane n).snd with
      tx := (s.lane n).snd.tx ++ lowBytes data q.nextCount
      mover := .none
      cur := some { q with read := q.read + q.nextCount } } (startLaneTimer s.now (s.lane n).takeLimit)
      { q with read := q.read + q.nextCount }
    refine ⟨_, rfl, SendSide.offerNext_inCycle .., ?_, hstrobe⟩
    unfold SendSide.sending at hsending
    rw [← Option.isSome_map, hsending]
    rfl

theorem Inv.execSendMoverReadCompletion {s t : State} {data : Word} {merr : Bool} (h : Inv s)
    (ht : exec (.sendMoverReadCompletion data merr) s = .next t) : Inv t := by
  by_cases hsend : ∃ n a, s.arb.port = some ⟨.send n, a⟩
  · obtain ⟨n, a, hport⟩ := hsend
    have hlane := h.freePortCore.lanes n
    have hmode : ¬((s.lane n).mode = .mirror ∨ (s.lane n).mode = .receive) := by
      refine hlane.modes.speaks fun hreset => ?_
      have hsnd : (s.lane n).snd = SendSide.reset := hreset
      rcases h.port.sendBusy hport with hm | hm <;> rw [hsnd] at hm <;> cases hm
    obtain ⟨hfree, hpresent⟩ := hlane.send.moverFree
    have hended : LaneDone s.freePort (s.readEnded n) n := hlane.sendDone hfree hmode (by
      unfold State.readEnded
      rw [State.setSnd_lane_same]
      rfl)
    have hsnd : ((s.readEnded n).lane n).snd = { (s.lane n).snd with mover := .none } :=
      congrArg Lane.snd (State.setSnd_lane_same ..)
    rcases h.port.sendBusy hport with hbusy | horphan
    · obtain ⟨q, hcur⟩ := (h.records n).1.record (.inr hbusy)
      rw [exec_sendRead_busy hport hbusy hcur] at ht
      cases ht
      split
      · have hcur' : ((s.readEnded n).lane n).snd.cur = some q := by
          rw [hsnd]
          exact hcur
        refine h.sendEnd hport (.failRecord ..) (hended.toLaneStep.done
          (hended.law.sendDone (hended.send.failRecord hcur' 2) ?_ ?_))
        · rw [hended.mode]
          exact hmode
        · rw [State.failRecord_eq, State.sendFailed_lane, hcur']
          exact ⟨fun _ => .inl rfl, fun _ => .inr rfl⟩
      · obtain ⟨x, hx, hcycle, hsome, _⟩ := s.freePort.readDone_snd n q data
        have hstep := hlane.send.readDone (q := q) hcur hbusy data
        rw [hx] at hstep ⊢
        have hset : (s.readEnded n).setSnd n x = s.freePort.setSnd n x := State.setSnd_setSnd ..
        refine h.sendEnd hport ?_ (hlane.sendDone hstep hmode ?_)
        · rw [← hset]
          refine .setSnd ?_
          rw [hsnd, hcycle]
          rfl
        · rw [State.setSnd_lane_same]
          refine ⟨fun _ => .inl ?_, fun _ => .inl hsome⟩
          change (s.lane n).snd.cur.isSome = true
          rw [hcur]
          rfl
    · rw [exec_sendRead_orphaned hport horphan] at ht
      cases ht
      have hset : (s.readEnded n).setSnd n ({ (s.lane n).snd with mover := .none } : SendSide).present =
          s.freePort.setSnd n ({ (s.lane n).snd with mover := .none } : SendSide).present := State.setSnd_setSnd ..
      refine h.sendEnd hport ?_ (hlane.sendDone hpresent hmode ?_)
      · rw [← hset]
        refine .setSnd ?_
        rw [SendSide.present_inCycle, hsnd]
      · rw [State.setSnd_lane_same, SendSide.present_frame]
        rfl
  · cases ht
    split
    · rename_i n a hport
      exact absurd ⟨n, a, hport⟩ hsend
    · exact h

/-! ### The receive mover's write (R133, R136, R139) -/

/-- The port FREE and the write of lane n's receive mover over. -/
def State.writeEnded (s : State) (n : LaneId) : State := s.freePort.setRcv n { (s.lane n).rcv with mover := .none }

/-- What a completed write makes its side do, before it consumes on, keeps the laws when it keeps those of the side. -/
theorem Inv.recvEnd {s w : State} (h : Inv s) {n : LaneId} {a : MemAccess} (hport : s.arb.port = some ⟨.recv n, a⟩)
    (hev : LaneEvent (s.writeEnded n) w) (hstep : RecvStep s.freePort w n) : Inv (w.drain n) := by
  obtain ⟨_, hwriter, hlanes⟩ := h.port.others hport
  have hbusy := h.port.recvBusy hport
  have hactive : s.Active := h.active_of_mover (.inr ⟨n, .inr (by
    rcases hbusy with hm | hm <;> (rw [hm]; exact nofun))⟩)
  have hquiet : Quiet (s.writeEnded n) := by
    refine ⟨hwriter nofun, fun k => ?_, fun k => ?_⟩
    · unfold State.writeEnded
      rw [State.setRcv_lane]
      split
      · exact (hlanes _).1 nofun
      · exact (hlanes k).1 nofun
    · unfold State.writeEnded
      rw [State.setRcv_lane]
      split
      · rfl
      · rename_i hne
        exact (hlanes k).2 (by rintro ⟨⟩; exact hne rfl)
  have hlane := h.freePortCore.lanes n
  have hmode : ¬((s.lane n).mode = .mirror ∨ (s.lane n).mode = .send) := by
    refine hlane.modes.hears fun hreset => ?_
    have hrcv : (s.lane n).rcv = RecvSide.reset := hreset
    rcases hbusy with hm | hm <;> rw [hrcv] at hm <;> cases hm
  obtain ⟨hdrain, hrest⟩ := hstep.1.drain
  have hdone := hlane.recvDone (hstep.trans hdrain) hrest hmode
  have hev' := hev.trans (.drain w n)
  exact h.cycleEnd hactive hport nofun rfl rfl hquiet hev'
    (h.freePortCore.framed (hev'.ring h.ring) hev'.dev hev'.sbase hdone.toLaneFrame hdone.law)

/-- A side whose write is over, with nothing gathered by it, presents what a close still needs (R133, R135, R139). -/
theorem RecvHalf.writeOver {s : State} {n : LaneId} (h : RecvHalf s n) {g : List Byte}
    (hg : g = [] ∧ (s.lane n).rcv.mover = .busy ∨ g = (s.lane n).rcv.gather ∧ (s.lane n).rcv.mover = .orphaned) :
    RecvStep s (s.setRcv n { (s.lane n).rcv with
      gather := g, mover := if (s.lane n).rcv.state.code = 3 then .waiting else .none }) n := by
  obtain ⟨hbuffered, hgathered, hasking, hfilling, _, hother⟩ := h.shape
  have hlength : g.length < 4 := by
    rcases hg with ⟨rfl, _⟩ | ⟨rfl, hm⟩
    · exact Nat.zero_lt_succ _
    · refine Nat.lt_of_le_of_ne hgathered fun h4 => ?_
      rcases hasking h4 with ha | ha <;> rw [hm] at ha <;> cases ha
  refine h.setRcv ⟨hbuffered, hlength.le, fun h4 => absurd h4 hlength.ne, fun h2 hm => ?_, fun h3 => ?_, fun h2 h3 => ?_⟩ rfl
    (fun d hd => h.record.2 d hd) fun p hp => ?_
  · dsimp only at h2 hm
    rw [if_neg (by rw [h2]; decide)] at hm
    rcases hm with hm | hm <;> cases hm
  · dsimp only at h3 ⊢
    rw [if_pos h3]
    exact nofun
  · dsimp only at h2 h3 ⊢
    rw [if_neg h3]
    refine ⟨?_, nofun, nofun⟩
    rcases hg with ⟨rfl, _⟩ | ⟨rfl, _⟩
    · rfl
    · exact (hother h2 h3).1
  · obtain ⟨_, _, hstands⟩ := h.record.1 p hp
    rcases hg with ⟨rfl, hbusy⟩ | ⟨rfl, _⟩
    · rw [RecvSide.gatherStands_iff] at hstands ⊢
      refine ⟨Nat.zero_le _, fun hc => ?_⟩
      rcases hc with hc | hc
      · rw [hstands.2 (.inl hc), hfilling hc (.inr hbusy)]
        exact Nat.mod_self 4
      · exact absurd rfl hc
    · exact hstands

/-- A closing record whose header is written (R136). -/
theorem RecvHalf.recordReady {s : State} {n : LaneId} (h : RecvHalf s n) {q : FillRecord}
    (hq : (s.lane n).rcv.state = .closing q) (hgather : (s.lane n).rcv.gather = []) : RecvStep s (s.recordReady n q) n := by
  obtain ⟨hserves, hstate, _, hk⟩ := h.current (.inr hq)
  have hrec := (h.tracked q.chan hserves).slots q.slot hk
  obtain ⟨_, hdir, _⟩ := (s.serves_iff ..).mp hserves
  obtain ⟨x, hx⟩ : ∃ x : RecvSide, x = { (s.lane n).rcv with state := .idle, mover := .none } := ⟨_, rfl⟩
  rw [State.recordReady_eq, ← hx]
  refine ⟨h.put (x := x) (c := q.chan) (k := q.slot)
      (r := ⟨.ready, (s.slot q.chan q.slot).len, (s.chan q.chan).seqCtr⟩) hserves
      (.of_setChan (fun _ => rfl) rfl List.length_set id) (.of_setChan (fun _ => rfl) rfl)
      ⟨hrec.1, nofun, fun hd => (by rw [hdir] at hd; cases hd), fun _ => .inr (.inr rfl)⟩ hk (.inr (RecvSide.target_filling (.inr hq)))
      (congrArg Lane.rcv (State.setRcv_lane_same ..)) ?_ (.inr ⟨nofun, ?_⟩) ?_,
    .of_move (c := q.chan) (x := x) (.of_setChan (fun _ => rfl) rfl List.length_set id) hserves fun _ => rfl⟩
  · rw [hx]
    refine ⟨h.shape.buffered, h.shape.gathered, fun h4 => ?_, nofun, nofun, fun _ _ => ⟨hgather, nofun, nofun⟩⟩
    dsimp only at h4
    rw [hgather] at h4
    cases h4
  · rw [hx]
    rfl
  · rw [hx]
    rfl

/-- A write that ends with MERR drops the record, with the mover NONE (R139). -/
theorem RecvHalf.droppedAfterWrite {s : State} {n : LaneId} (h : RecvHalf s n) {q : FillRecord}
    (hq : (s.lane n).rcv.state = .filling q ∨ (s.lane n).rcv.state = .closing q) (detail : BitVec 16) {after : RecvState}
    (hafter : after = .idle ∨ after = .discarding) :
    RecvStep s ((s.setRcv n { (s.lane n).rcv with mover := .none }).dropped n q detail after) n := by
  refine h.givenUp hq (m := .none) nofun nofun hafter (fun _ => rfl) fun k => ?_
  have hlane : ∀ u : State, (u.dropped n q detail after).lane k = (u.setRcv n { (u.lane n).rcv with
      gather := []
      mover := if (u.lane n).rcv.mover = .busy ∨ (u.lane n).rcv.mover = .orphaned then .orphaned else .none
      state := after }).lane k := fun _ => rfl
  rw [hlane, State.setRcv_lane_same, State.setRcv_setRcv]
  rfl

theorem Inv.execReceiveMoverWriteCompletion {s t : State} {merr : Bool} (h : Inv s)
    (ht : exec (.receiveMoverWriteCompletion merr) s = .next t) : Inv t := by
  by_cases hrecv : ∃ n a, s.arb.port = some ⟨.recv n, a⟩
  · obtain ⟨n, a, hport⟩ := hrecv
    have hhalf := (h.freePortCore.lanes n).recv
    have hrcv : ((s.writeEnded n).lane n).rcv = { (s.lane n).rcv with mover := .none } :=
      congrArg Lane.rcv (State.setRcv_lane_same ..)
    have hover : ∀ x : RecvSide, x.mover.inCycle = false → LaneEvent (s.writeEnded n) (s.freePort.setRcv n x) := fun x hx => by
      have hset : (s.writeEnded n).setRcv n x = s.freePort.setRcv n x := State.setRcv_setRcv ..
      rw [← hset]
      refine .setRcv ?_
      rw [hrcv, hx]
      rfl
    have hasks : (if (s.lane n).rcv.state.code = 3 then Mover.waiting else Mover.none).inCycle = false := by split <;> rfl
    rcases h.port.recvBusy hport with hbusy | horphan
    · obtain ⟨q, hq⟩ := (h.records n).2.record (.inr hbusy)
      rw [exec_recvWrite_busy hport hbusy] at ht
      cases ht
      split
      · obtain ⟨after, hafter, hstate⟩ : ∃ after : RecvState, (after = .idle ∨ after = .discarding) ∧
            ((s.freePort.lane n).rcv.state = .filling q ∧ after = .discarding ∨
              (s.freePort.lane n).rcv.state = .closing q ∧ after = .idle) := by
          rcases hq with hq | hq
          · exact ⟨.discarding, .inr rfl, .inl ⟨hq, rfl⟩⟩
          · exact ⟨.idle, .inl rfl, .inr ⟨hq, rfl⟩⟩
        rw [State.recvWriteError_resume hstate]
        refine h.recvEnd hport ?_ (hhalf.droppedAfterWrite hq 4 hafter)
        rw [← State.dropRecord_eq]
        exact .dropRecord ..
      · by_cases hheader : ∃ p, (s.lane n).rcv.state = .closing p ∧ (s.lane n).rcv.gather = []
        · obtain ⟨p, hp, hgather⟩ := hheader
          rw [State.recvWriteDone_header (s := s.freePort) hp hgather, State.resumeRecv_drain]
          · refine h.recvEnd hport ?_ (hhalf.recordReady hp hgather)
            exact (hover _ rfl).trans (.recordReady ..)
          · rw [State.recordReady_eq]
            intro r
            change ((s.freePort.setRcv n _).lane n).rcv.state ≠ _
            rw [State.setRcv_lane_same]
            exact nofun
        · have hword : s.freePort.recvWriteDone n = s.freePort.setRcv n { (s.lane n).rcv with gather := [], mover := .none } := by
            rcases hq with hq | hq
            · exact State.recvWriteDone_filling (s := s.freePort) hq
            · exact State.recvWriteDone_word (s := s.freePort) fun hgather => hheader ⟨q, hq, hgather⟩
          rw [hword]
          unfold State.resumeRecv
          rw [State.setRcv_lane_same, RecvSide.closeStep_of_none { (s.lane n).rcv with gather := [] }, State.setRcv_setRcv]
          exact h.recvEnd hport (hover _ hasks) (hhalf.writeOver (.inl ⟨rfl, hbusy⟩))
    · rw [exec_recvWrite_orphaned hport horphan] at ht
      cases ht
      unfold State.resumeRecv
      rw [State.setRcv_lane_same, RecvSide.closeStep_of_none, State.setRcv_setRcv]
      exact h.recvEnd hport (hover _ hasks) (hhalf.writeOver (.inr ⟨rfl, horphan⟩))
  · cases ht
    split
    · rename_i n a hport
      exact absurd ⟨n, a, hport⟩ hrecv
    · exact h

end Sys2Proof.Machine
end

section
/-! SUPPORT. The commands of the host port keep the laws of the part: arrivals, completions and releases of strobes (chapter 1). -/

namespace Sys2Proof.Machine

/-! ### Changes of the host port and of the arbiter -/

/-- A change of the arbiter that leaves the port's access (R147, R152). -/
theorem Inv.setArb {s : State} (h : Inv s) (hresetn : s.resetn = true) {x : Arbiter} (hport : x.port = s.arb.port) :
    Inv { s with arb := x } := by
  have hlaw : PortLaw { s with arb := x } := by
    have howner : State.portOwner { s with arb := x } = s.portOwner := congrArg (Option.map PortAccess.who) hport
    have hs := h.port
    rw [portLaw_iff] at hs ⊢
    rw [howner]
    exact hs
  exact Core.inv (h.core.outer rfl rfl rfl rfl rfl) hlaw h.guard h.classes (h.inactive.outside hresetn rfl (.inl rfl))

/-- What a decision was among is no matter of the laws (R152). -/
theorem Inv.noting {t : State} (h : Inv t) (hresetn : t.resetn = true) (s : State) : Inv (s.noting t) := by
  rw [State.noting_eq]
  refine h.setArb hresetn ?_
  rfl

/-- A change of the host port that leaves what the port does (R1). -/
theorem Inv.setHost {s : State} (h : Inv s) (hresetn : s.resetn = true) {x : HostSide}
    (hasked : x.port.asked = s.host.port.asked) (hheld : x.port.isHeld = s.host.port.isHeld)
    (hcycle : x.port.inCycle = s.host.port.inCycle) : Inv (s.withHost x) := by
  have hport : PortLaw (s.withHost x) := by
    have hs := h.port
    unfold PortLaw at hs ⊢
    rw [← hcycle] at hs
    exact hs
  have hguard : GuardLaw (s.withHost x) := by
    have hs := h.guard
    unfold GuardLaw at hs ⊢
    rw [← hasked, ← hheld] at hs
    exact hs
  refine Core.inv (h.core.outer rfl rfl rfl rfl rfl) hport hguard (fun r hr => ?_) (h.inactive.outside hresetn rfl (.inl rfl))
  obtain ⟨_, hcls⟩ := h.classes r (hasked ▸ hr)
  exact ⟨hresetn, hcls.trans (State.classify_congr rfl rfl (fun _ => rfl) _)⟩

/-- With no access waiting or held the guard is at rest (R82). -/
theorem Inv.guard_rest {s : State} (h : Inv s) (hasked : s.host.port.asked = none) : s.guard = ⟨none, none⟩ := by
  refine h.guard.rests fun r hr => ?_
  rw [hasked] at hr
  cases hr

/-- A host port that is not in HP_IDLE is that of a part out of reset (R16). -/
theorem Inv.resetn_of_port {s : State} (h : Inv s) (hport : s.host.port ≠ .idle) : s.resetn = true := by
  by_contra hr
  rw [Bool.not_eq_true] at hr
  rw [(h.inactive.2 hr).1] at hport
  exact hport rfl

/-! ### Arrivals (R1, R4, R14, R15) -/

theorem Inv.seeStrobes {s : State} (h : Inv s) (hresetn : s.resetn = true) (b : HostBus) : Inv (s.seeStrobes b) :=
  h.setHost hresetn rfl rfl rfl

/-- A setup read changes nothing that the laws speak of (R4, R159). -/
theorem Inv.setupReadEffect {s : State} (h : Inv s) (hactive : s.Active) (w : SetupWord) :
    Inv (s.setupReadEffect w) ∧ (s.setupReadEffect w).host = s.host ∧ (s.setupReadEffect w).resetn = s.resetn := by
  unfold State.setupReadEffect
  split
  · rename_i n
    have hwork : ∀ k, SameWork ((s.setLane n { s.lane n with mir := { (s.lane n).mir with changeHeld := false } }).lane k)
        (s.lane k) := fun k => by
      rw [State.lane_setLane]
      split
      · rename_i hk
        subst hk
        exact ⟨rfl, rfl, rfl, rfl⟩
      · exact .refl _
    have hev := LaneEvent.of_sameWork (s := s)
      (t := s.setLane n { s.lane n with mir := { (s.lane n).mir with changeHeld := false } }) rfl hwork
    exact ⟨hev.inv h hactive (h.core.sameWork hev hwork fun _ => rfl), rfl, rfl⟩
  · exact ⟨h, rfl, rfl⟩

/-- An access that arrives waits with the class of its address (R1, R2, R5). -/
theorem Inv.waits {s : State} (h : Inv s) (hresetn : s.resetn = true) (hidle : s.host.port = .idle) {r : HostRecord}
    (hcls : r.cls = s.classify r.addr.toNat) {x : HostSide} (hx : x.port = .waiting r) : Inv (s.withHost x) := by
  have hguard : GuardLaw (s.withHost x) := by
    have hrest : (s.withHost x).guard = ⟨none, none⟩ := h.guard_rest (by rw [hidle]; rfl)
    have hport : (s.withHost x).host.port = .waiting r := hx
    unfold GuardLaw
    rw [hrest, hport]
    exact ⟨rfl, nofun, nofun⟩
  refine Core.inv (h.core.outer rfl rfl rfl rfl rfl) (h.port.setHost (by rw [hidle]; rfl) ?_ rfl rfl rfl) hguard (fun q hq => ?_)
    (h.inactive.outside hresetn rfl (.inl rfl))
  · change x.port.inCycle = false
    rw [hx]
    rfl
  · change q ∈ x.port.asked at hq
    rw [hx] at hq
    cases hq
    exact ⟨hresetn, hcls.trans (State.classify_congr rfl rfl (fun _ => rfl) _)⟩

theorem Inv.arrive {s : State} (h : Inv s) (hresetn : s.resetn = true) (hidle : s.host.port = .idle) (b : HostBus) (pins : Pins) :
    Inv (s.arrive b pins) := by
  have hseen := h.seeStrobes hresetn b
  unfold State.arrive
  dsimp only
  split
  · exact hseen.setHost hresetn rfl rfl rfl
  · split
    · rename_i off hcls _
      have hactive : s.Active := by
        refine ⟨hresetn, Bool.eq_false_iff.mpr fun hbypass => ?_⟩
        have hplain : (s.recordOf b).cls = .plain := if_pos hbypass
        rw [hplain] at hcls
        cases hcls
      obtain ⟨heffect, hhost, hr⟩ := hseen.setupReadEffect ⟨hactive.resetn, hactive.bypass⟩ (setupWordAt off)
      have hport : ((s.seeStrobes b).setupReadEffect (setupWordAt off)).host.port = .idle := by
        rw [hhost]
        exact hidle
      exact heffect.setHost (hr.trans hresetn) (by rw [hport]) (by rw [hport]) (by rw [hport])
    · exact hseen.waits (r := s.recordOf b) hresetn hidle (State.classify_congr rfl rfl (fun _ => rfl) _) rfl

theorem Inv.arriveAgain {s : State} (h : Inv s) (hresetn : s.resetn = true) (hidle : s.host.port = .idle) (r : HostRecord)
    (b : HostBus) (pins : Pins) : Inv (s.arriveAgain r b pins) := by
  have hreleased : Inv (s.withHost { s.host with rdStrobe := false, wrStrobe := false }) := h.setHost hresetn rfl rfl rfl
  have harrive : Inv ((s.withHost { s.host with rdStrobe := false, wrStrobe := false }).arrive
      { b with rd := !r.write, wr := r.write } pins) := hreleased.arrive hresetn hidle ..
  unfold State.arriveAgain
  split
  · split
    · exact h
    · exact harrive
  · split
    · exact h
    · exact harrive

theorem Inv.strobe {s : State} (h : Inv s) (b : HostBus) (pins : Pins) : Inv (s.strobe b pins) := by
  unfold State.strobe
  split
  · exact h
  · rename_i hseen
    have hresetn : s.resetn = true := by
      rw [Bool.or_eq_true, not_or, Bool.not_eq_true', Bool.not_eq_false] at hseen
      exact hseen.1
    split
    · rename_i hidle
      split
      · have harrive := h.arrive hresetn hidle b pins
        exact harrive.noting ((RingKept.arrive s b pins).toSameOutside.resetn.trans hresetn) s
      · exact h.seeStrobes hresetn b
    · rename_i r cyc haccess
      split
      · unfold State.strobeAgain
        dsimp only
        split
        · exact (h.seeStrobes hresetn b).setHost hresetn (by change _ = s.host.port.asked; rw [haccess]; rfl)
            (by change _ = s.host.port.isHeld; rw [haccess]; rfl) (by change _ = s.host.port.inCycle; rw [haccess]; rfl)
        · exact h.seeStrobes hresetn b
      · exact h.seeStrobes hresetn b
    · exact h.seeStrobes hresetn b

/-! ### Completions (R12, R14) -/

/-- The host's cycle is over and the port FREE (R12, R146). -/
theorem Inv.hostEnd {s : State} (h : Inv s) {r : HostRecord} {cyc : HostCycle} (hport : s.host.port = .access r cyc) {x : HostSide}
    (hx : x.port = .idle) : Inv (s.freePort.withHost x) := by
  have hresetn := h.resetn_of_port (by rw [hport]; exact HostPort.noConfusion)
  have howner : s.portOwner = some .host := h.port.1.mpr (by rw [hport]; rfl)
  obtain ⟨p, hp, hwho⟩ := Option.map_eq_some_iff.mp howner
  obtain ⟨_, hwriter, hlanes⟩ := h.port.others hp
  rw [hwho] at hwriter hlanes
  have hquiet : Quiet (s.freePort.withHost x) := ⟨hwriter nofun, fun n => (hlanes n).1 nofun, fun n => (hlanes n).2 nofun⟩
  have hcycle : (s.freePort.withHost x).host.port.inCycle = false := by
    change x.port.inCycle = false
    rw [hx]
    rfl
  have hguard : GuardLaw (s.freePort.withHost x) := by
    have hrest : (s.freePort.withHost x).guard = ⟨none, none⟩ := h.guard_rest (by rw [hport]; rfl)
    have hidle : (s.freePort.withHost x).host.port = .idle := hx
    unfold GuardLaw
    rw [hrest, hidle]
    exact ⟨rfl, nofun, nofun⟩
  refine Core.inv (h.core.outer rfl rfl rfl rfl rfl) (.of_quiet rfl hcycle hquiet) hguard (fun q hq => ?_)
    (h.inactive.outside hresetn rfl (.inl rfl))
  change q ∈ x.port.asked at hq
  rw [hx] at hq
  cases hq

theorem Inv.execHostAccessCompletion {s t : State} {data : CycleEnd} {merr : Bool} (h : Inv s)
    (ht : exec (.hostAccessCompletion data merr) s = .next t) : Inv t := by
  cases ht
  split
  · rename_i r cyc hport
    have hresetn := h.resetn_of_port (by rw [hport]; exact HostPort.noConfusion)
    split
    · have hended : Inv (s.freePort.withHost { s.host with port := .idle }) := h.hostEnd hport rfl
      split
      · exact hended.arriveAgain hresetn rfl ..
      · exact hended
    · exact h.hostEnd hport rfl
  · exact h

/-! ### Releases of strobes (R1, R14) -/

/-- A waiting or held access is dropped, with what is held of it (R14, R82). -/
theorem Inv.dropAsked {s : State} (h : Inv s) {r : HostRecord} (hr : r ∈ s.host.port.asked)
    (hcycle : s.host.port.inCycle = false) {x : HostSide} (hx : x.port = .idle) : Inv (s.clearGuard.withHost x) := by
  have hresetn := (h.classes r hr).1
  have hport : (s.clearGuard.withHost x).host.port = .idle := hx
  have hguard : GuardLaw (s.clearGuard.withHost x) := by
    unfold GuardLaw
    rw [hport]
    exact ⟨rfl, nofun, nofun⟩
  refine Core.inv (h.core.outer rfl rfl rfl rfl rfl) (h.port.setHost hcycle (by rw [hport]; rfl) rfl rfl rfl) hguard
    (fun q hq => ?_) (h.inactive.outside hresetn rfl (.inr rfl))
  rw [hport] at hq
  cases hq

theorem Inv.execEarlyStrobeRelease {s t : State} (h : Inv s) (ht : exec .earlyStrobeRelease s = .next t) : Inv t := by
  cases ht
  split
  · rename_i r hport
    have hr : r ∈ s.host.port.asked := by
      rw [hport]
      rfl
    exact (h.dropAsked (x := { s.host.releaseOwn r with port := .idle }) hr (by rw [hport]; rfl) rfl).noting (h.classes r hr).1 s
  · rename_i r hport
    exact h.dropAsked (r := r) (by rw [hport]; rfl) (by rw [hport]; rfl) rfl
  · rename_i r cyc hport
    exact h.setHost (h.resetn_of_port (by rw [hport]; exact HostPort.noConfusion)) (by rw [hport]; rfl) (by rw [hport]; rfl)
      (by rw [hport]; rfl)
  · exact h

theorem HostSide.release_port (x : HostSide) (rd wr : Bool) : (x.release rd wr).port = x.port := by
  unfold HostSide.release
  dsimp only
  split
  · split <;> rfl
  · rfl

theorem Inv.release {s : State} (h : Inv s) (rd wr : Bool) : Inv (s.withHost (s.host.release rd wr)) := by
  by_cases hresetn : s.resetn = true
  · exact h.setHost hresetn (by rw [HostSide.release_port]) (by rw [HostSide.release_port]) (by rw [HostSide.release_port])
  · have hreset : s.host.release rd wr = s.host := by
      rw [(h.inactive.2 (Bool.not_eq_true _ ▸ hresetn)).1]
      rfl
    rw [hreset]
    exact h

theorem Inv.execHostStrobeRelease {s t : State} {rd wr : Bool} (h : Inv s)
    (ht : exec (.hostStrobeRelease rd wr) s = .next t) : Inv t := by
  cases ht
  split
  · exact h.release ..
  · exact h.release ..
  · exact h.release ..
  · exact h.release ..

end Sys2Proof.Machine
end

section
/-! SUPPORT. The notice writer's words, the stall timer, the two edges of RESETn and the watch samples keep the laws of the part (R16,
R76, R160, R168, R169). -/

namespace Sys2Proof.Machine

/-! ### The notice writer (R168, R169) -/

/-- The end of the notice writer's cycle, with what the notice unit then does. -/
theorem Inv.noticeEnd {s t : State} (h : Inv s) {a : MemAccess} (hport : s.arb.port = some ⟨.notice, a⟩)
    (ht : t = { s with arb := t.arb, nu := t.nu }) (hfree : t.arb.port = none) (hring : RingLaw t)
    (hwriter : t.nu.writer.inCycle = false) : Inv t := by
  obtain ⟨_, _, hlanes⟩ := h.port.others hport
  have hwriting : s.nu.writer ≠ .idle := by
    have hw := h.port.2.1.mp (by
      unfold State.portOwner
      rw [hport]
      rfl)
    rcases hw with hw | hw <;> rw [hw] <;> exact nofun
  have hlane : ∀ n, t.lane n = s.lane n := fun n => by
    rw [ht]
    rfl
  have hchan : ∀ c, t.chan c = s.chan c := fun c => by
    rw [ht]
    rfl
  refine h.cycleEnd (v := t) (h.active_of_mover (.inl hwriting)) hport nofun ?_ hfree ⟨hwriter, fun n => ?_, fun n => ?_⟩ (.refl t) ?_
  · calc t = { s with arb := t.arb, nu := t.nu } := ht
      _ = { s with arb := t.arb, nu := t.nu, lanes := t.lanes } := by rw [ht]
  · rw [hlane]
    exact (hlanes n).1 nofun
  · rw [hlane]
    exact (hlanes n).2 nofun
  · exact h.core.kept hring (by rw [ht]) (by rw [ht]) (fun c => by rw [hchan]) (fun n => by rw [hlane]) (fun c _ => by rw [hchan])
      fun n => (h.laneLaw n).same (by rw [hlane]; exact .refl _) fun c => by rw [hchan]

/-- The writer that goes on from idle has no cycle in progress (R167). -/
theorem State.startWriter_rests {s : State} (h : s.nu.writer = .idle) : s.startWriter.nu.writer.inCycle = false := by
  rw [State.startWriter_inCycle, h]
  rfl

theorem State.noticeFailed_frame (s : State) : s.noticeFailed = { s with nu := s.noticeFailed.nu } := by
  unfold State.noticeFailed
  rw [State.startWriter_eq]
  rfl

theorem State.noticeWritten_frame (s : State) : s.noticeWritten = { s with nu := s.noticeWritten.nu } := by
  unfold State.noticeWritten
  rw [State.startWriter_eq]
  rfl

/-- A word that ends with MERR (R169). -/
theorem Inv.noticeFailed {s : State} (h : Inv s) {a : MemAccess} (hport : s.arb.port = some ⟨.notice, a⟩) :
    Inv s.freePort.noticeFailed := by
  have hframe := s.freePort.noticeFailed_frame
  refine h.noticeEnd hport ?_ ?_ (State.noticeFailed_ring (s := s.freePort) h.ring) (State.startWriter_rests rfl)
  · rw [hframe]
    rfl
  · rw [hframe]
    rfl

theorem Inv.execNoticeWordCompletion {s t : State} {merr : Bool} (h : Inv s)
    (ht : exec (.noticeWordCompletion merr) s = .next t) : Inv t := by
  cases ht
  split
  · rename_i a hport
    dsimp only
    split
    · rename_i hwriter
      split
      · exact h.noticeFailed hport
      · obtain ⟨hlist, hsize, hroom, hwaits⟩ := h.ring
        refine h.noticeEnd hport rfl rfl ⟨hlist, hsize, hroom, fun _ => hwaits ?_⟩ rfl
        rw [hwriter]
        exact WriterState.noConfusion
    · rename_i hwriter
      split
      · exact h.noticeFailed hport
      · have hframe := s.freePort.noticeWritten_frame
        refine h.noticeEnd hport ?_ ?_ (State.noticeWritten_ring (s := s.freePort) h.ring ?_) (State.startWriter_rests rfl)
        · rw [hframe]
          rfl
        · rw [hframe]
          rfl
        · change s.nu.writer ≠ .idle
          rw [hwriter]
          exact WriterState.noConfusion
    · rename_i hnot0 hnot1
      have hwriting := h.port.2.1.mp (by
        unfold State.portOwner
        rw [hport]
        rfl)
      rcases hwriting with hw | hw
      · exact absurd hw hnot0
      · exact absurd hw hnot1
  · exact h

/-! ### The stall timer (R76) -/

theorem Inv.execStallTimerExpiry {s t : State} (h : Inv s) (ht : exec .stallTimerExpiry s = .next t) : Inv t := by
  have hend : ∀ {r x}, r ∈ s.host.port.asked → s.host.port.inCycle = false → s.guard.held = some x →
      Inv (s.noting (s.endStalled r x)) := by
    intro r x hr hcycle hheld
    obtain ⟨q, hq, hfor⟩ := h.guard.2.1 x hheld
    have hactive := HeldFor.active h hq hfor
    have hended := h.endStalled hactive hcycle r x
    exact hended.noting ((RingKept.endStalled s r x).toSameOutside.resetn.trans hactive.resetn) s
  cases ht
  split
  · split
    · rename_i x r hheld hport
      exact hend (by rw [hport]; rfl) (by rw [hport]; rfl) hheld
    · rename_i x r hheld hport
      exact hend (by rw [hport]; rfl) (by rw [hport]; rfl) hheld
    · exact h
  · exact h

/-! ### The edges of RESETn (R16) -/

/-- A part whose blocks are at their reset values, with the host port in HP_IDLE and the memory port FREE (R16). -/
theorem Blocks.idle {s : State} (h : Blocks s) (hhost : s.host = State.reset.host) (harb : s.arb = State.reset.arb)
    (hinactive : InactiveLaw s) : Inv s := by
  have hport : PortLaw s := .of_quiet (by rw [harb]; rfl) (by rw [hhost]; rfl) h.toQuiet
  have hguard : GuardLaw s := by
    unfold GuardLaw
    rw [h.guard, hhost]
    exact ⟨rfl, nofun, nofun⟩
  refine h.toCore.inv hport hguard (fun r hr => ?_) hinactive
  rw [hhost] at hr
  cases hr

theorem Inv.execHardwareReset {s t : State} {sbase : BitVec 8} {bypass : Bool}
    (ht : exec (.hardwareReset sbase bypass) s = .next t) : Inv t := by
  cases ht
  obtain ⟨u, hu⟩ : ∃ u : State, u = { s.resetBlocks with resetn := false, sbase := sbase, bypass := bypass } := ⟨_, rfl⟩
  have hlane : ∀ n, u.lane n = Lane.reset := fun n => by
    rw [hu]
    exact s.resetBlocks_lane n
  have hinactive : InactiveLaw u := by
    refine ⟨fun _ => ⟨by rw [hu]; rfl, by rw [hu]; rfl, by rw [hu]; rfl, by rw [hu]; rfl, fun n => ?_⟩,
      fun _ => ⟨by rw [hu]; rfl, by rw [hu]; rfl⟩⟩
    rw [hlane]
    exact ⟨rfl, rfl, rfl⟩
  have hblocks : Blocks u := by
    refine .of_reset (by rw [hu]; rfl) (by rw [hu]; rfl) (by rw [hu]; rfl) (fun c => ?_) fun n => ?_
    · rw [hu]
      exact s.resetBlocks_chan c
    · rw [hlane]
      exact .refl _
  rw [← hu]
  exact hblocks.idle (by rw [hu]; rfl) (by rw [hu]; rfl) hinactive

/-- The part at the rise of RESETn, with the straps that stand and the levels of the lines (R16, R155). -/
theorem Inv.resetReleased {s u : State} (h : Inv s) (hlow : s.resetn = false) {sbase : BitVec 8} {bypass : Bool} {pins : Pins}
    (hu : u = State.sampleAll { s with resetn := true, sbase := sbase, bypass := bypass } pins) : Inv u := by
  obtain ⟨hguard, hdev, hnu, hchans, hlanes⟩ := h.inactive.1 (.inl hlow)
  obtain ⟨hhost, harb⟩ := h.inactive.2 hlow
  have hlane : ∀ n, ∃ levels, u.lane n = { s.lane n with mir := { (s.lane n).mir with sampled := levels } } := fun n => by
    rw [hu, State.sampleAll_lane]
    exact ⟨_, rfl⟩
  rw [State.sampleAll_eq] at hu
  have hframe : u = { s with resetn := true, sbase := sbase, bypass := bypass, lanes := u.lanes } := by
    rw [hu]
  have hhost' : u.host = State.reset.host := by rw [hframe]; exact hhost
  have harb' : u.arb = State.reset.arb := by rw [hframe]; exact harb
  have hdev' : u.dev = State.reset.dev := by rw [hframe]; exact hdev
  have hnu' : u.nu = State.reset.nu := by rw [hframe]; exact hnu
  have hguard' : u.guard = State.reset.guard := by rw [hframe]; exact hguard
  have hchans' : u.chans = State.reset.chans := by rw [hframe]; exact hchans
  have hblocks : Blocks u := by
    refine .of_reset hdev' hnu' hguard' (fun c => ?_) fun n => ?_
    · unfold State.chan
      rw [hchans']
      exact State.reset_chan c
    · obtain ⟨levels, hn⟩ := hlane n
      have hreset := (hlanes n).1
      have hmode := congrArg Lane.mode hreset
      have hturn := congrArg (fun l : Lane => l.turn.turn) hreset
      have hsnd := congrArg Lane.snd hreset
      have hrcv := congrArg Lane.rcv hreset
      rw [hn]
      exact ⟨hmode, hturn, hsnd, hrcv⟩
  refine hblocks.idle hhost' harb' ⟨fun _ => ⟨hguard', hdev', hnu', hchans', fun n => ?_⟩, fun _ => ⟨hhost', harb'⟩⟩
  obtain ⟨levels, hn⟩ := hlane n
  rw [hn]
  exact hlanes n

theorem Inv.execResetRelease {s t : State} {sbase : BitVec 8} {bypass : Bool} {bus : HostBus} {pins : Pins} (h : Inv s)
    (ht : exec (.resetRelease sbase bypass bus pins) s = .next t) : Inv t := by
  cases ht
  split
  · exact h
  · rename_i hlow
    exact (h.resetReleased (Bool.not_eq_true _ ▸ hlow) rfl).strobe ..

/-! ### The watch samples (R160) -/

/-- A lane's watch sample compares levels and reports (R160). -/
theorem LaneEvent.watchLane (pins : Pins) (s : State) (n : LaneId) : LaneEvent s (State.watchLane pins s n) := by
  unfold State.watchLane
  dsimp only
  split
  · exact (LaneEvent.setLane (by rfl) (by rfl) (by rfl)).trans (.generate ..)
  · exact .setLane rfl rfl rfl

theorem Inv.watchLane {s : State} (h : Inv s) (hactive : s.Active) (pins : Pins) (n : LaneId) :
    Inv (State.watchLane pins s n) := by
  have hev := LaneEvent.watchLane pins s n
  refine hev.inv h hactive (h.core.sameWork hev (fun k => ?_) fun c => ?_)
  · rw [State.watchLane_eq]
    change SameWork ((s.setLane n (s.watched pins n)).lane k) _
    rw [State.lane_setLane]
    split
    · rename_i hk
      rw [← hk]
      exact ⟨rfl, rfl, rfl, rfl⟩
    · exact .refl _
  · rw [State.watchLane_eq]
    rfl

theorem Inv.execWatchSample {s t : State} {pins : Pins} (h : Inv s) (ht : exec (.watchSample pins) s = .next t) : Inv t := by
  have htick : Inv { s with now := s.now + 1 } :=
    Core.inv (h.core.outer rfl rfl rfl rfl rfl) h.port h.guard h.classes h.inactive
  have hfold : ∀ (l : List LaneId) {u : State}, Inv u → u.Active →
      Inv (l.foldl (State.watchLane pins) u) ∧ (l.foldl (State.watchLane pins) u).Active := by
    intro l
    induction l with
    | nil => exact fun hu ha => ⟨hu, ha⟩
    | cons n l ih =>
      exact fun hu ha => ih (hu.watchLane ha pins n) ((LaneEvent.watchLane pins _ n).toSameOutside.active ha)
  cases ht
  split
  · rename_i hactive
    rw [Bool.and_eq_true, Bool.not_eq_true'] at hactive
    obtain ⟨hlaw, hup⟩ := hfold allLanes htick ⟨hactive.1, hactive.2⟩
    exact hlaw.noting hup.resetn s
  · exact htick

end Sys2Proof.Machine
end

section
/-! SUPPORT. Every command keeps the laws of the part, and so does every step (O59). -/

namespace Sys2Proof.Machine

/-- Every command keeps the laws: a grant of a host access by its class, the others each by its own rule. -/
theorem Inv.exec {s t : State} (h : Inv s) {i : Instr} (ht : exec i s = .next t) : Inv t := by
  cases i with
  | hostAccessArrival bus pins =>
    cases ht
    exact h.strobe ..
  | mirrorWordRead n be pins =>
    cases ht
    exact h.strobe ..
  | hostAccessCompletion data merr => exact h.execHostAccessCompletion ht
  | earlyStrobeRelease => exact h.execEarlyStrobeRelease ht
  | hostStrobeRelease rd wr => exact h.execHostStrobeRelease ht
  | hardwareReset sbase bypass => exact Inv.execHardwareReset ht
  | resetRelease sbase bypass bus pins => exact h.execResetRelease ht
  | stallTimerExpiry => exact h.execStallTimerExpiry ht
  | memoryPortGrant => exact h.execMemoryPortGrant ht
  | sendMoverReadCompletion data merr => exact h.execSendMoverReadCompletion ht
  | receiveMoverWriteCompletion merr => exact h.execReceiveMoverWriteCompletion ht
  | noticeWordCompletion merr => exact h.execNoticeWordCompletion ht
  | take n => exact h.execTake ht
  | takeAssertion n => exact h.execTakeAssertion ht
  | takeTimerExpiry n => exact h.execTakeTimerExpiry ht
  | abortStrobeEnd n => exact h.execAbortStrobeEnd ht
  | put n byte mark => exact h.execPut ht
  | markAssertion n => exact h.execMarkAssertion ht
  | engineAbort n => exact h.execEngineAbort ht
  | byteTimerExpiry n => exact h.execByteTimerExpiry ht
  | slotWaitExpiry n => exact h.execSlotWaitExpiry ht
  | wantRise n => exact h.execWantRise ht
  | wantFall n => exact h.execWantFall ht
  | watchSample pins => exact h.execWatchSample ht
  | _ =>
    cases ht
    exact h.grantWhen ..

/-- Settles O59: the laws do not speak of the queue, and every command keeps them. -/
theorem everyStepKeepsTheLaws : Obligations.EveryStepKeepsTheLaws := by
  intro s t h hstep
  rcases step_cases hstep with rfl | ⟨c, rest, _, hc⟩
  · exact h
  · exact (h.setPending rest).exec hc

end Sys2Proof.Machine
end
